-- ==== Sys2Proof/Word.lean ====
section
/-! DEFINITION. The word types of the machine: every register, address and memory cell of the spec is a byte or
a 16-bit word (00_scope.md R6). -/

namespace Sys2Proof

/-- One addressable unit and one general register: 8 bits (R6). -/
abbrev Byte := BitVec 8

/-- An address, `SP`, `PC` or a register pair: 16 bits (R6). -/
abbrev Word := BitVec 16

end Sys2Proof
end

