-- ==== Sys2Proof/Machine/Bits.lean ====
section
/-! DEFINITION. Bit-field, byte-order and sign-extension helpers (00_scope.md R9, 20_memory.md R104). -/

namespace Sys2Proof

/-- `v[7:0]` of a 16-bit value. -/
def loByte (v : Word) : Byte := v.extractLsb' 0 8

/-- `v[15:8]` of a 16-bit value. -/
def hiByte (v : Word) : Byte := v.extractLsb' 8 8

/-- The word `(hi, lo)`: the low byte is the one at the lower address (R104). -/
def joinBytes (lo hi : Byte) : Word := hi ++ lo

/-- `sext_8` of R9 reduced mod 2^16, so that adding it to a 16-bit value adds the signed byte. -/
def signExtend (b : Byte) : Word := b.signExtend 16

/-- The single bit `b` as a byte 0 or 1, shifted left by `k`. -/
def bitAt (b : Bool) (k : Nat) : Byte := (if b then 1#8 else 0#8) <<< k

/-- The address `0xFF00 + n` of page 0xFF (30_encoding.md R128). -/
def highPage (n : Byte) : Word := 0xFF00#16 + n.setWidth 16

end Sys2Proof
end

