-- ==== Sys2Proof/Config.lean ====
section
/-! DEFINITION. What the spec leaves to the configuration of the machine (00_scope.md R7): the cartridge, the reset
images and the open parameters.  The parameters a running machine reads are the plain data `Params`, held in `State`
and changed by no step, so that a statement about every state holds for every value of every parameter. -/

namespace Sys2Proof

/-- `CART_KIND` (20_memory.md R84). -/
inductive CartKind where
  | none | mbc1 | mbc3 | mbc5
  deriving DecidableEq, Repr

/-- `STOP_MODE` (46_cpu_control.md R322, decision D11). -/
inductive StopMode where
  | refuse | nop2
  deriving DecidableEq, Repr

/-- The five registers of the MBC3 clock stub: seconds, minutes, hours, day-low, day-high (20_memory.md R90). -/
structure Rtc where
  seconds : Byte
  minutes : Byte
  hours   : Byte
  dayLow  : Byte
  dayHigh : Byte
  deriving DecidableEq, Repr

/-- The parameters of R7 that the running machine reads. -/
structure Params where
  cartKind     : CartKind
  /-- Number of 16 KiB ROM banks (20_memory.md R85). -/
  romBanks     : Nat
  /-- Number of 8 KiB external-RAM banks (20_memory.md R85). -/
  ramBanks     : Nat
  stopMode     : StopMode
  /-- `MODE3_EXTRA` as a table: entry `n + 11 * w` is its value for `n` selected sprites (0 to 10) and the window
  visible on the line (`w = 1`) or not (`w = 0`) (62_ppu.md R434, decision D26). -/
  mode3Extra   : List Nat
  /-- `SAMPLE_PERIOD` in T-cycles (63_apu.md R500, decision D33). -/
  samplePeriod : Nat
  deriving DecidableEq, Repr

/-- The default `MODE3_EXTRA` of R434: 6 per selected sprite plus 6 if the window is visible on the line. -/
def mode3ExtraDefault : List Nat := (List.range 22).map fun i => 6 * (i % 11) + 6 * (i / 11)

/-- The default parameters: a 32 KiB cartridge of kind None (R86), `MODE3_EXTRA` as R434, `SAMPLE_PERIOD` 95 (D33).
`STOP_MODE` is open (D11); this instance takes the choice under which STOP goes on.
DESIGN CHOICE, log entry 1: the spec's default is `refuse`; both are modelled. -/
def Params.default : Params where
  cartKind     := .none
  romBanks     := 2
  ramBanks     := 0
  stopMode     := .nop2
  mode3Extra   := mode3ExtraDefault
  samplePeriod := 95

/-- The default `RTC_STUB`: five zero bytes (decision D17). -/
def Rtc.zero : Rtc := ⟨0, 0, 0, 0, 0⟩

/-- Everything the host supplies before reset (R7): images are lists of (offset, byte), a byte that is not listed being
0x00 (log entry 2). -/
structure Config where
  rom          : List Host.Cell
  /-- `length(ROM)` in bytes. -/
  romLength    : Nat
  eramInit     : List Host.Cell
  vramInit     : List Host.Cell
  wramInit     : List Host.Cell
  oamInit      : List Host.Cell
  hramInit     : List Host.Cell
  waveInit     : List Host.Cell
  stopMode     : StopMode
  mode3Extra   : List Nat
  samplePeriod : Nat
  rtcStub      : Rtc
  deriving DecidableEq, Repr

/-- The blank configuration: a 32 KiB image of zero bytes, which R84 and R85 accept as kind None, and `MEM_INIT`,
`ERAM_INIT` all zero (95_test_vectors.md section 0).  DESIGN CHOICE, log entries 1, 2 and 3. -/
def Config.blank : Config where
  rom          := []
  romLength    := 0x8000
  eramInit     := []
  vramInit     := []
  wramInit     := []
  oamInit      := []
  hramInit     := []
  waveInit     := []
  stopMode     := .nop2
  mode3Extra   := mode3ExtraDefault
  samplePeriod := 95
  rtcStub      := Rtc.zero

end Sys2Proof
end

