-- ==== Sys2Proof/Machine/State.lean ====
section
/-! DEFINITION. The state of the machine as plain data: every piece of state of 10_state.md, 20_memory.md and
61 to 63, the ghost counter `T`, and its value after reset (70_reset_and_hazards.md R530, R531). -/

namespace Sys2Proof.Machine

open Sys2Proof

/-- Why a step has no successor state. -/
inductive Fault where
  /-- Raised by `step` on a state whose CPU an illegal opcode has locked: "no step exists" (60_exceptions.md R340,
  R360).  Safe: the spec gives such a state no successor. -/
  | locked
  /-- Raised by `powerOn` alone, before any step, for a malformed cartridge header (20_memory.md R84, R85;
  60_exceptions.md R361): the header address and its byte.  Safe: the spec gives no machine. -/
  | badCartridge (addr : Word) (value : Byte)
  deriving DecidableEq, Repr

/-- Why the model declines to give a successor state. -/
inductive Refusal where
  /-- An instruction that has no meaning in the model yet; raised by no arm of this model.  Safe. -/
  | notModelled (mnemonic : String)
  /-- Raised by `step` on a state in which STOP has run under `STOP_MODE = refuse`: "the model gives the state no
  successor" (46_cpu_control.md R322).  Safe: the spec claims nothing after it. -/
  | stopRefused
  deriving DecidableEq, Repr

/-- The four flag bits of F (10_state.md R24).  F's bits 3:0 are always 0, so they are not stored. -/
structure Flags where
  z : Bool
  n : Bool
  h : Bool
  c : Bool
  deriving DecidableEq, Repr

/-- What a fault record is about (60_exceptions.md R360; 46_cpu_control.md R322). -/
inductive Cause where
  | illegalOpcode | stopRefused
  deriving DecidableEq, Repr

/-- The register snapshot of a fault record (60_exceptions.md R360). -/
structure Snapshot where
  a   : Byte
  f   : Byte
  b   : Byte
  c   : Byte
  d   : Byte
  e   : Byte
  h   : Byte
  l   : Byte
  sp  : Word
  pc  : Word
  ime : Bool
  deriving DecidableEq, Repr

/-- The fault record (10_state.md R31, 60_exceptions.md R360). -/
structure FaultRecord where
  cause    : Cause
  addr     : Word
  opcode   : Byte
  snapshot : Snapshot
  deriving DecidableEq, Repr

/-- The CPU (10_state.md R20 to R31). -/
structure Cpu where
  a          : Byte
  f          : Flags
  b          : Byte
  c          : Byte
  d          : Byte
  e          : Byte
  h          : Byte
  l          : Byte
  sp         : Word
  pc         : Word
  ime        : Bool
  imePending : Bool
  halted     : Bool
  haltBug    : Bool
  locked     : Bool
  refused    : Bool
  record     : Option FaultRecord
  /-- The model's own field: `addr` of 60_exceptions.md R343, the address the running instruction's opcode byte was
  fetched from, kept for the fault record (log entry 4). -/
  curAddr    : Word
  deriving DecidableEq, Repr

/-- The interrupt controller (10_state.md R48): IF and IE. -/
structure Irq where
  flags  : BitVec 5
  enable : Byte
  deriving DecidableEq, Repr

/-- The timer (10_state.md R45). -/
structure Timer where
  divcnt        : Word
  tima          : Byte
  tma           : Byte
  tac           : BitVec 3
  reloadPending : Bool
  deriving DecidableEq, Repr

/-- The OAM DMA engine (10_state.md R46). -/
structure Dma where
  active    : Bool
  src       : Byte
  remaining : Nat
  sub       : Nat
  deriving DecidableEq, Repr

/-- The PPU modes (62_ppu.md R420). -/
inductive Mode where
  | hblank | vblank | oamScan | pixelTransfer
  deriving DecidableEq, Repr

/-- The PPU (10_state.md R47, 62_ppu.md R420). -/
structure Ppu where
  lcdc        : Byte
  /-- STAT bits 6:3 as bits 3:0: HBlank, VBlank, OamScan, LY=LYC interrupt enables. -/
  statEnable  : BitVec 4
  scy         : Byte
  scx         : Byte
  lyc         : Byte
  bgp         : Byte
  obp0        : Byte
  obp1        : Byte
  wy          : Byte
  wx          : Byte
  mode        : Mode
  ly          : Nat
  dot         : Nat
  mode3Len    : Nat
  statLine    : Bool
  lineSprites : List Nat
  /-- `FB[y][x]` at key `160 * y + x`, canonical like the memories, a pixel that is not listed being 0. -/
  fb          : List (Nat × BitVec 2)
  frameReady  : Bool
  deriving DecidableEq, Repr

/-- A pulse channel (63_apu.md R480). -/
structure Pulse where
  enabled  : Bool
  ftimer   : Nat
  dutyPos  : Nat
  length   : Nat
  vol      : Nat
  envTimer : Nat
  deriving DecidableEq, Repr

/-- The sweep unit of channel 1 (63_apu.md R481). -/
structure Sweep where
  timer   : Nat
  enabled : Bool
  shadow  : BitVec 11
  deriving DecidableEq, Repr

/-- The wave channel (63_apu.md R482). -/
structure WaveChannel where
  enabled : Bool
  ftimer  : Nat
  pos     : Nat
  length  : Nat
  deriving DecidableEq, Repr

/-- The noise channel (63_apu.md R483). -/
structure Noise where
  enabled  : Bool
  ftimer   : Nat
  lfsr     : BitVec 15
  length   : Nat
  vol      : Nat
  envTimer : Nat
  deriving DecidableEq, Repr

/-- The APU (10_state.md R49, 63_apu.md R470 to R483): stored register contents and channel state. -/
structure Apu where
  power       : Bool
  nr10        : Byte
  nr11        : Byte
  nr12        : Byte
  nr13        : Byte
  nr14        : Byte
  nr21        : Byte
  nr22        : Byte
  nr23        : Byte
  nr24        : Byte
  nr30        : Byte
  nr31        : Byte
  nr32        : Byte
  nr33        : Byte
  nr34        : Byte
  nr41        : Byte
  nr42        : Byte
  nr43        : Byte
  nr44        : Byte
  nr50        : Byte
  nr51        : Byte
  ch1         : Pulse
  ch2         : Pulse
  sweep       : Sweep
  ch3         : WaveChannel
  ch4         : Noise
  fsCount     : Nat
  fsStep      : Nat
  sampleCount : Nat
  /-- The samples appended so far, oldest first, each (left, right) (R500). -/
  audioOut    : List (Nat × Nat)
  deriving DecidableEq, Repr

/-- The serial stub (10_state.md R48, 61_timer_dma_serial_joypad.md R405): SB, SC bits 7 and 0, the output stream. -/
structure Serial where
  sb       : Byte
  scStart  : Bool
  scClock  : Bool
  out      : List Byte
  deriving DecidableEq, Repr

/-- The joypad port (10_state.md R48, 61_timer_dma_serial_joypad.md R410): P1 bits 5:4 and the host's buttons. -/
structure Joypad where
  select  : BitVec 2
  buttons : Byte
  deriving DecidableEq, Repr

/-- The bank controller's registers, of every kind (20_memory.md R87 to R91); which of them count is
`Params.cartKind`. -/
structure Cart where
  ramEnable     : Bool
  romBank5      : BitVec 5
  mbc1Hi2       : BitVec 2
  mbc1Mode      : Bool
  romBank7      : BitVec 7
  mbc3Sel       : BitVec 4
  rtcLatchState : Byte
  rtcLive       : Rtc
  rtcLatched    : Rtc
  romBank9      : BitVec 9
  ramBank4      : BitVec 4
  deriving DecidableEq, Repr

/-- A memory: (offset, byte) pairs with rising offsets, none equal to what an unlisted offset reads as. -/
abbrev Memory := List Host.Cell

/-- The backing storage behind the address map (20_memory.md R61 to R71, 63_apu.md R479), each region by its own
offsets. -/
structure Mem where
  rom  : Memory
  eram : Memory
  vram : Memory
  wram : Memory
  oam  : Memory
  hram : Memory
  wave : Memory
  deriving DecidableEq, Repr

/-- The whole machine. -/
structure State where
  cpu    : Cpu
  irq    : Irq
  timer  : Timer
  dma    : Dma
  ppu    : Ppu
  apu    : Apu
  serial : Serial
  joypad : Joypad
  cart   : Cart
  mem    : Mem
  cfg    : Params
  /-- The ghost counter `T` of elapsed T-cycles (10_state.md R32). -/
  t      : Nat
  deriving DecidableEq, Repr

/-- What a step, and a meaning, answers. -/
abbrev Result := Host.Outcome State Fault Refusal

/-- CPU reset values (10_state.md R40); `curAddr` is the model's own, DESIGN CHOICE 0x0000 (log entry 4). -/
def Cpu.reset : Cpu where
  a := 0x01
  f := ⟨true, false, true, true⟩
  b := 0x00
  c := 0x13
  d := 0x00
  e := 0xD8
  h := 0x01
  l := 0x4D
  sp := 0xFFFE
  pc := 0x0100
  ime := false
  imePending := false
  halted := false
  haltBug := false
  locked := false
  refused := false
  record := none
  curAddr := 0x0000

/-- R47 and R33: the first dot of line 0 in OamScan. -/
def Ppu.reset : Ppu where
  lcdc := 0x91
  statEnable := 0
  scy := 0x00
  scx := 0x00
  lyc := 0x00
  bgp := 0xFC
  obp0 := 0xFF
  obp1 := 0xFF
  wy := 0x00
  wx := 0x00
  mode := .oamScan
  ly := 0
  dot := 0
  mode3Len := 172
  statLine := false
  lineSprites := []
  fb := []
  frameReady := false

/-- A pulse channel with every field 0 (R480). -/
def Pulse.zero : Pulse := ⟨false, 0, 0, 0, 0, 0⟩

/-- The sweep unit with every field 0 (R481). -/
def Sweep.zero : Sweep := ⟨0, false, 0⟩

/-- The wave channel with every field 0 (R482). -/
def WaveChannel.zero : WaveChannel := ⟨false, 0, 0, 0⟩

/-- The noise channel with every field 0 (R483). -/
def Noise.zero : Noise := ⟨false, 0, 0, 0, 0, 0⟩

/-- R49 and R33: powered, every channel disabled, register contents of the table "stored reset content". -/
def Apu.reset : Apu where
  power := true
  nr10 := 0x00
  nr11 := 0x80
  nr12 := 0xF3
  nr13 := 0x00
  nr14 := 0x00
  nr21 := 0x00
  nr22 := 0x00
  nr23 := 0x00
  nr24 := 0x00
  nr30 := 0x00
  nr31 := 0x00
  nr32 := 0x00
  nr33 := 0x00
  nr34 := 0x00
  nr41 := 0x00
  nr42 := 0x00
  nr43 := 0x00
  nr44 := 0x00
  nr50 := 0x77
  nr51 := 0xF3
  ch1 := Pulse.zero
  ch2 := Pulse.zero
  sweep := Sweep.zero
  ch3 := WaveChannel.zero
  ch4 := Noise.zero
  fsCount := 0
  fsStep := 0
  sampleCount := 0
  audioOut := []

/-- R87 to R91 reset values; the RTC registers hold `RTC_STUB`. -/
def Cart.reset (rtc : Rtc) : Cart where
  ramEnable := false
  romBank5 := 1
  mbc1Hi2 := 0
  mbc1Mode := false
  romBank7 := 1
  mbc3Sel := 0
  rtcLatchState := 0xFF
  rtcLive := rtc
  rtcLatched := rtc
  romBank9 := 1
  ramBank4 := 0

/-- The machine right after reset, for given parameters, memory images and `RTC_STUB` (R530, R531). -/
def State.initial (cfg : Params) (mem : Mem) (rtc : Rtc) : State where
  cpu := Cpu.reset
  irq := ⟨0b00001, 0x00⟩
  timer := ⟨0xABCC, 0x00, 0x00, 0, false⟩
  dma := ⟨false, 0xFF, 0, 0⟩
  ppu := Ppu.reset
  apu := Apu.reset
  serial := ⟨0x00, false, false, []⟩
  joypad := ⟨0, 0x00⟩
  cart := Cart.reset rtc
  mem := mem
  cfg := cfg
  t := 0

/-- Memories with nothing listed. -/
def Mem.empty : Mem := ⟨[], [], [], [], [], [], []⟩

/-- The machine right after reset with the blank configuration: no program is placed (log entry 3). -/
def State.reset : State := State.initial Params.default Mem.empty Rtc.zero

end Sys2Proof.Machine
end

