-- ==== Sys2Proof/Machine/Memory.lean ====
section
/-! DEFINITION. The backing stores: lists of (key, value) pairs in one canonical form, used for the memories of
20_memory.md R61 to R71 and for the framebuffer of 62_ppu.md R420. -/

namespace Sys2Proof.Machine

open Sys2Proof

/-- What a key that is not listed reads as.  For WRAM, HRAM, VRAM, OAM and wave RAM the spec gives no reset content
(10_state.md R52).  DESIGN CHOICE, unsafe, log entry 2: 0. -/
def unlisted (n : Nat) : BitVec n := 0#n

/-- The value at key `k`. -/
def Cells.read {n : Nat} : List (Nat × BitVec n) → Nat → BitVec n
  | [], _ => unlisted n
  | (a, v) :: m, k => if k = a then v else Cells.read m k

/-- The pair `(k, v)` before `m`, left out when an unlisted key reads as `v` anyway. -/
def Cells.consUnlessDefault {n : Nat} (k : Nat) (v : BitVec n) (m : List (Nat × BitVec n)) : List (Nat × BitVec n) :=
  if v = unlisted n then m else (k, v) :: m

/-- Store `v` at key `k`, keeping the canonical form. -/
def Cells.write {n : Nat} : List (Nat × BitVec n) → Nat → BitVec n → List (Nat × BitVec n)
  | [], k, v => Cells.consUnlessDefault k v []
  | (a, w) :: m, k, v =>
    if k < a then Cells.consUnlessDefault k v ((a, w) :: m)
    else if k = a then Cells.consUnlessDefault k v m
    else (a, w) :: Cells.write m k v

/-- Every listed key is above `lo`, the keys rise strictly and no value is the unlisted one. -/
def Cells.wfAbove {n : Nat} : Nat → List (Nat × BitVec n) → Bool
  | _, [] => true
  | lo, (a, v) :: m => decide (lo ≤ a) && decide (v ≠ unlisted n) && Cells.wfAbove (a + 1) m

/-- The canonical form: keys strictly rising, no value equal to what an unlisted key reads as. -/
def Cells.wf {n : Nat} (m : List (Nat × BitVec n)) : Bool := Cells.wfAbove 0 m

/-- Every listed key is below `size`. -/
def Cells.below {n : Nat} (size : Nat) (m : List (Nat × BitVec n)) : Bool := m.all fun c => decide (c.1 < size)

/-- The canonical form of an arbitrary list of pairs, a later pair overriding an earlier one. -/
def Cells.ofList {n : Nat} (l : List (Nat × BitVec n)) : List (Nat × BitVec n) :=
  l.foldl (fun m c => Cells.write m c.1 c.2) []

/-- One memory is in canonical form. -/
def Memory.wf (m : Memory) : Bool := Cells.wf m

/-- All seven memories are in canonical form, and those of fixed size list no offset outside them
(20_memory.md R64, R66, R68, R71; 63_apu.md R479). -/
def Mem.wf (m : Mem) : Bool :=
  Memory.wf m.rom && Memory.wf m.eram
    && (Memory.wf m.vram && Cells.below 0x2000 m.vram)
    && (Memory.wf m.wram && Cells.below 0x2000 m.wram)
    && (Memory.wf m.oam && Cells.below 0xA0 m.oam)
    && (Memory.wf m.hram && Cells.below 0x7F m.hram)
    && (Memory.wf m.wave && Cells.below 0x10 m.wave)

end Sys2Proof.Machine
end

