-- ==== Sys2Proof/Machine/Apu.lean ====
section
/-! DEFINITION. The APU: channels, frame sequencer, mixer, register writes (63_apu.md R470 to R501). -/

namespace Sys2Proof.Machine

open Sys2Proof

/-- The 11-bit frequency `(NRx4[2:0], NRx3)` (R473 to R475). -/
def frequency (nrx3 nrx4 : Byte) : Nat := (nrx4.setWidth 3 ++ nrx3).toNat

/-- The DAC of a pulse or noise channel: `NRx2[7:3] != 0` (R473, R476). -/
def dacOn (nrx2 : Byte) : Bool := decide (nrx2.extractLsb' 3 5 ≠ 0#5)

/-- `NRx2[7:4]`, the initial volume (R473). -/
def initialVolume (nrx2 : Byte) : Nat := (nrx2.extractLsb' 4 4).toNat

/-- `NRx2[2:0]`, the envelope period (R473). -/
def envelopePeriod (nrx2 : Byte) : Nat := (nrx2.extractLsb' 0 3).toNat

/-- A period of 0 counts as 8 where a timer is loaded from it (R489, R494, R496). -/
def orEight (n : Nat) : Nat := if n = 0 then 8 else n

/-- NRx4 bit 6, the length enable (R473). -/
def lengthEnable (nrx4 : Byte) : Bool := nrx4.getLsbD 6

/-- `NR10[6:4]` (R473). -/
def Apu.sweepPeriod (a : Apu) : Nat := (a.nr10.extractLsb' 4 3).toNat

/-- `NR10[3]`: the frequency decreases (R473). -/
def Apu.sweepDown (a : Apu) : Bool := a.nr10.getLsbD 3

/-- `NR10[2:0]` (R473). -/
def Apu.sweepShift (a : Apu) : Nat := (a.nr10.extractLsb' 0 3).toNat

/-! ## Timers of the channels -/

/-- `(2048 - freq) * 4` (R490). -/
def pulsePeriod (nrx3 nrx4 : Byte) : Nat := (2048 - frequency nrx3 nrx4) * 4

/-- `(2048 - freq) * 2` (R491). -/
def wavePeriod (nrx3 nrx4 : Byte) : Nat := (2048 - frequency nrx3 nrx4) * 2

/-- `((d = 0) ? 8 : 16 * d) << s` (R492). -/
def noisePeriod (nr43 : Byte) : Nat :=
  let d := (nr43.extractLsb' 0 3).toNat
  (if d = 0 then 8 else 16 * d) <<< (nr43.extractLsb' 4 4).toNat

/-- `PulseTick` for a channel whose period is `period` (R490). -/
def Pulse.tick (c : Pulse) (period : Nat) : Pulse :=
  if c.ftimer ≤ 1 then { c with ftimer := period, dutyPos := (c.dutyPos + 1) % 8 } else { c with ftimer := c.ftimer - 1 }

/-- `WaveTick()` (R491). -/
def WaveChannel.tick (c : WaveChannel) (period : Nat) : WaveChannel :=
  if c.ftimer ≤ 1 then { c with ftimer := period, pos := (c.pos + 1) % 32 } else { c with ftimer := c.ftimer - 1 }

/-- One clock of the LFSR: the feedback bit enters at bit 14 and, in 7-bit mode, replaces bit 6 (R492). -/
def lfsrNext (lfsr : BitVec 15) (narrow : Bool) : BitVec 15 :=
  let x := lfsr.getLsbD 0 != lfsr.getLsbD 1
  let shifted := (lfsr >>> 1) ||| (if x then 0x4000#15 else 0#15)
  if narrow then (shifted &&& ~~~0x0040#15) ||| (if x then 0x0040#15 else 0#15) else shifted

/-- `NoiseTick()` (R492). -/
def Noise.tick (c : Noise) (nr43 : Byte) : Noise :=
  if c.ftimer ≤ 1 then { c with ftimer := noisePeriod nr43, lfsr := lfsrNext c.lfsr (nr43.getLsbD 3) }
  else { c with ftimer := c.ftimer - 1 }

/-! ## The frame sequencer -/

/-- A length counter clocks: `len_en` set and the counter above 0 (R487). -/
def lengthClocks (nrx4 : Byte) (length : Nat) : Bool := lengthEnable nrx4 && decide (0 < length)

/-- The channel stays enabled unless its counter clocks down to 0 (R487). -/
def staysEnabled (nrx4 : Byte) (length : Nat) (enabled : Bool) : Bool :=
  enabled && !(lengthClocks nrx4 length && decide (length - 1 = 0))

/-- The counter after a length clock (R487). -/
def lengthAfter (nrx4 : Byte) (length : Nat) : Nat := if lengthClocks nrx4 length then length - 1 else length

/-- A length clock of a pulse channel (R487). -/
def Pulse.clockLength (c : Pulse) (nrx4 : Byte) : Pulse :=
  { c with length := lengthAfter nrx4 c.length, enabled := staysEnabled nrx4 c.length c.enabled }

/-- A length clock of the wave channel (R487). -/
def WaveChannel.clockLength (c : WaveChannel) (nrx4 : Byte) : WaveChannel :=
  { c with length := lengthAfter nrx4 c.length, enabled := staysEnabled nrx4 c.length c.enabled }

/-- A length clock of the noise channel (R487). -/
def Noise.clockLength (c : Noise) (nrx4 : Byte) : Noise :=
  { c with length := lengthAfter nrx4 c.length, enabled := staysEnabled nrx4 c.length c.enabled }

/-- `ClockLength()` (R487). -/
def Apu.clockLength (a : Apu) : Apu :=
  { a with
    ch1 := a.ch1.clockLength a.nr14
    ch2 := a.ch2.clockLength a.nr24
    ch3 := a.ch3.clockLength a.nr34
    ch4 := a.ch4.clockLength a.nr44 }

/-- The frequency a sweep calculation gives (R489). -/
def Apu.sweepNew (a : Apu) : Nat :=
  if a.sweepDown then a.sweep.shadow.toNat - (a.sweep.shadow.toNat >>> a.sweepShift)
  else a.sweep.shadow.toNat + (a.sweep.shadow.toNat >>> a.sweepShift)

/-- The overflow check of `SweepCalc()`: above 2047 the channel is disabled (R489). -/
def Apu.sweepCheck (a : Apu) : Apu := { a with ch1.enabled := a.ch1.enabled && decide (a.sweepNew ≤ 2047) }

/-- The new frequency goes to the shadow, NR13 and NR14 bits 2:0 (R489). -/
def Apu.sweepStore (a : Apu) (new : BitVec 11) : Apu :=
  { a with
    sweep.shadow := new
    nr13 := new.extractLsb' 0 8
    nr14 := a.nr14.extractLsb' 3 5 ++ new.extractLsb' 8 3 }

/-- The calculation of a sweep clock, its check, its store and the second check (R489). -/
def Apu.sweepUpdate (a : Apu) : Apu :=
  if a.sweepNew ≤ 2047 ∧ a.sweepShift ≠ 0 then (a.sweepStore (BitVec.ofNat 11 a.sweepNew)).sweepCheck
  else a.sweepCheck

/-- `ClockSweep()` (R489). -/
def Apu.clockSweep (a : Apu) : Apu :=
  if a.sweep.timer - 1 = 0 then
    let b : Apu := { a with sweep.timer := orEight a.sweepPeriod }
    if a.sweep.enabled && decide (a.sweepPeriod ≠ 0) then b.sweepUpdate else b
  else { a with sweep.timer := a.sweep.timer - 1 }

/-- The volume one envelope step away (R488). -/
def envelopeStep (nrx2 : Byte) (vol : Nat) : Nat :=
  if nrx2.getLsbD 3 then (if vol < 15 then vol + 1 else vol) else vol - 1

/-- The volume after an envelope clock (R488). -/
def envelopeVol (nrx2 : Byte) (vol timer : Nat) : Nat :=
  if envelopePeriod nrx2 ≠ 0 ∧ timer - 1 = 0 then envelopeStep nrx2 vol else vol

/-- The envelope timer after an envelope clock (R488). -/
def envelopeTimer (nrx2 : Byte) (timer : Nat) : Nat :=
  if envelopePeriod nrx2 = 0 then timer else if timer - 1 = 0 then envelopePeriod nrx2 else timer - 1

/-- An envelope clock of a pulse channel (R488). -/
def Pulse.clockEnvelope (c : Pulse) (nrx2 : Byte) : Pulse :=
  { c with vol := envelopeVol nrx2 c.vol c.envTimer, envTimer := envelopeTimer nrx2 c.envTimer }

/-- An envelope clock of the noise channel (R488). -/
def Noise.clockEnvelope (c : Noise) (nrx2 : Byte) : Noise :=
  { c with vol := envelopeVol nrx2 c.vol c.envTimer, envTimer := envelopeTimer nrx2 c.envTimer }

/-- `ClockEnvelope()` (R488). -/
def Apu.clockEnvelope (a : Apu) : Apu :=
  { a with
    ch1 := a.ch1.clockEnvelope a.nr12
    ch2 := a.ch2.clockEnvelope a.nr22
    ch4 := a.ch4.clockEnvelope a.nr42 }

/-- `FrameSequencerStep()`: length on steps 0, 2, 4, 6, sweep on 2 and 6, envelope on 7 (R486). -/
def Apu.frameStep (a : Apu) : Apu :=
  let k := a.fsStep
  let b := if k = 0 ∨ k = 2 ∨ k = 4 ∨ k = 6 then a.clockLength else a
  let c := if k = 2 ∨ k = 6 then b.clockSweep else b
  let d := if k = 7 then c.clockEnvelope else c
  { d with fsStep := (k + 1) % 8 }

/-- The frame sequencer's 8192-tick counter (R485). -/
def Apu.countFrame (a : Apu) : Apu :=
  if a.fsCount + 1 = 8192 then Apu.frameStep { a with fsCount := 0 } else { a with fsCount := a.fsCount + 1 }

/-- The four channel timers of a tick (R485). -/
def Apu.tickChannels (a : Apu) : Apu :=
  { a with
    ch1 := a.ch1.tick (pulsePeriod a.nr13 a.nr14)
    ch2 := a.ch2.tick (pulsePeriod a.nr23 a.nr24)
    ch3 := a.ch3.tick (wavePeriod a.nr33 a.nr34)
    ch4 := a.ch4.tick a.nr43 }

/-! ## Outputs -/

/-- The duty table (R493). -/
def dutyTable : List (List Nat) :=
  [[0, 0, 0, 0, 0, 0, 0, 1], [1, 0, 0, 0, 0, 0, 0, 1], [1, 0, 0, 0, 0, 1, 1, 1], [0, 1, 1, 1, 1, 1, 1, 0]]

/-- `out(1)`, `out(2)` (R493). -/
def Pulse.output (c : Pulse) (nrx1 nrx2 : Byte) : Nat :=
  if c.enabled && dacOn nrx2 then ((dutyTable.getD (nrx1.extractLsb' 6 2).toNat []).getD c.dutyPos 0) * c.vol else 0

/-- Sample `p` of the wave table: the high nibble of byte `p div 2` for even `p`, the low one for odd (R479). -/
def waveSample (wave : Memory) (p : Nat) : Nat :=
  if p % 2 = 0 then ((Cells.read wave (p / 2)).extractLsb' 4 4).toNat
  else ((Cells.read wave (p / 2)).extractLsb' 0 4).toNat

/-- The shift of volume code `NR32[6:5]` (R475). -/
def waveShift (nr32 : Byte) : Nat :=
  if nr32.extractLsb' 5 2 = 0#2 then 4
  else if nr32.extractLsb' 5 2 = 1#2 then 0
  else if nr32.extractLsb' 5 2 = 2#2 then 1
  else 2

/-- `out(3)` (R493). -/
def WaveChannel.output (c : WaveChannel) (nr30 nr32 : Byte) (wave : Memory) : Nat :=
  if c.enabled && nr30.getLsbD 7 then waveSample wave c.pos >>> waveShift nr32 else 0

/-- `out(4)` (R493). -/
def Noise.output (c : Noise) (nr42 : Byte) : Nat :=
  if c.enabled && dacOn nr42 then (if c.lfsr.getLsbD 0 then 0 else c.vol) else 0

/-- The sum of the four outputs routed by bits `k` to `k + 3` of NR51 (R500). -/
def Apu.terminalSum (a : Apu) (wave : Memory) (k : Nat) : Nat :=
  (if a.nr51.getLsbD k then a.ch1.output a.nr11 a.nr12 else 0)
    + (if a.nr51.getLsbD (k + 1) then a.ch2.output a.nr21 a.nr22 else 0)
    + (if a.nr51.getLsbD (k + 2) then a.ch3.output a.nr30 a.nr32 wave else 0)
    + (if a.nr51.getLsbD (k + 3) then a.ch4.output a.nr42 else 0)

/-- `Mix()` (R500). -/
def Apu.mix (a : Apu) (wave : Memory) : Nat × Nat :=
  if a.power then
    (a.terminalSum wave 4 * ((a.nr50.extractLsb' 4 3).toNat + 1), a.terminalSum wave 0 * ((a.nr50.extractLsb' 0 3).toNat + 1))
  else (0, 0)

/-- The sample counter of a tick (R485). -/
def Apu.countSample (a : Apu) (wave : Memory) (period : Nat) : Apu :=
  if a.sampleCount + 1 = period then { a with sampleCount := 0, audioOut := a.audioOut ++ [a.mix wave] }
  else { a with sampleCount := a.sampleCount + 1 }

/-- The APU's own part of `ApuTick()` (R485). -/
def Apu.tick (a : Apu) (wave : Memory) (period : Nat) : Apu :=
  (if a.power then a.countFrame.tickChannels else a).countSample wave period

/-- `ApuTick()` (R485). -/
def State.apuTick (s : State) : State := { s with apu := s.apu.tick s.mem.wave s.cfg.samplePeriod }

/-! ## Triggers and register writes -/

/-- The steps of a pulse trigger common to channels 1 and 2 (R494). -/
def Pulse.trigger (c : Pulse) (nrx2 nrx3 nrx4 : Byte) : Pulse :=
  { c with
    enabled := dacOn nrx2
    length := if c.length = 0 then 64 else c.length
    ftimer := pulsePeriod nrx3 nrx4
    vol := initialVolume nrx2
    envTimer := orEight (envelopePeriod nrx2) }

/-- The sweep unit at a trigger of channel 1 (R494). -/
def Apu.triggerSweep (a : Apu) : Apu :=
  { a with
    sweep.shadow := a.nr14.setWidth 3 ++ a.nr13
    sweep.timer := orEight a.sweepPeriod
    sweep.enabled := decide (a.sweepPeriod ≠ 0 ∨ a.sweepShift ≠ 0) }

/-- The trigger of channel 1 (R494). -/
def Apu.trigger1 (a : Apu) : Apu :=
  let b := Apu.triggerSweep { a with ch1 := a.ch1.trigger a.nr12 a.nr13 a.nr14 }
  if a.sweepShift ≠ 0 then b.sweepCheck else b

/-- The trigger of channel 2 (R494). -/
def Apu.trigger2 (a : Apu) : Apu := { a with ch2 := a.ch2.trigger a.nr22 a.nr23 a.nr24 }

/-- The trigger of channel 3 (R495). -/
def Apu.trigger3 (a : Apu) : Apu :=
  { a with
    ch3.enabled := a.nr30.getLsbD 7
    ch3.length := if a.ch3.length = 0 then 256 else a.ch3.length
    ch3.ftimer := wavePeriod a.nr33 a.nr34
    ch3.pos := 0 }

/-- The trigger of channel 4 (R496). -/
def Apu.trigger4 (a : Apu) : Apu :=
  { a with
    ch4.enabled := dacOn a.nr42
    ch4.length := if a.ch4.length = 0 then 64 else a.ch4.length
    ch4.ftimer := noisePeriod a.nr43
    ch4.vol := initialVolume a.nr42
    ch4.envTimer := orEight (envelopePeriod a.nr42)
    ch4.lfsr := 0x7FFF }

/-- The length a write of bits 5:0 loads (R473, R476). -/
def lengthLoad (v : Byte) : Nat := 64 - (v.extractLsb' 0 6).toNat

/-- The bits of NRx4 that are stored: 6 and 2:0 (R473). -/
def storedNrx4 (v : Byte) : Byte := v &&& 0x47#8

/-- Power off: register contents and hidden channel fields become 0 (R478). -/
def Apu.powerOff (a : Apu) : Apu where
  power := false
  nr10 := 0
  nr11 := 0
  nr12 := 0
  nr13 := 0
  nr14 := 0
  nr21 := 0
  nr22 := 0
  nr23 := 0
  nr24 := 0
  nr30 := 0
  nr31 := 0
  nr32 := 0
  nr33 := 0
  nr34 := 0
  nr41 := 0
  nr42 := 0
  nr43 := 0
  nr44 := 0
  nr50 := 0
  nr51 := 0
  ch1 := Pulse.zero
  ch2 := Pulse.zero
  sweep := Sweep.zero
  ch3 := WaveChannel.zero
  ch4 := Noise.zero
  fsCount := a.fsCount
  fsStep := a.fsStep
  sampleCount := a.sampleCount
  audioOut := a.audioOut

/-- Power on: the frame sequencer starts over (R478). -/
def Apu.powerOn (a : Apu) : Apu := { a with power := true, fsCount := 0, fsStep := 0 }

/-- Write of NR52: only bit 7 counts (R478). -/
def Apu.writeNr52 (a : Apu) (v : Byte) : Apu :=
  if a.power && !v.getLsbD 7 then a.powerOff else if !a.power && v.getLsbD 7 then a.powerOn else a

/-- Read of NR52 (R478). -/
def Apu.readNr52 (a : Apu) : Byte :=
  BitVec.ofBool a.power ++ 0b111#3 ++ BitVec.ofBool a.ch4.enabled ++ BitVec.ofBool a.ch3.enabled
    ++ BitVec.ofBool a.ch2.enabled ++ BitVec.ofBool a.ch1.enabled

end Sys2Proof.Machine
end

