-- ==== Sys2Proof/Machine/Cartridge.lean ====
section
/-! DEFINITION. The cartridge port: header codes, bank registers, the banked windows (20_memory.md R62, R63, R65,
R84 to R92). -/

namespace Sys2Proof.Machine

open Sys2Proof

/-- `CART_KIND` from header byte 0x0147; `none` where the code is unsupported (R84). -/
def cartKindOf (code : Byte) : Option CartKind :=
  if code = 0x00#8 then some .none
  else if code = 0x01#8 ∨ code = 0x02#8 ∨ code = 0x03#8 then some .mbc1
  else if 0x0F ≤ code.toNat ∧ code.toNat ≤ 0x13 then some .mbc3
  else if 0x19 ≤ code.toNat ∧ code.toNat ≤ 0x1E then some .mbc5
  else none

/-- `ROM_BANKS` from header byte 0x0148 (R85). -/
def romBanksOf (code : Byte) : Option Nat := if code.toNat ≤ 8 then some (2 <<< code.toNat) else none

/-- `RAM_BANKS` from header byte 0x0149 (R85). -/
def ramBanksOf (code : Byte) : Option Nat :=
  if code = 0#8 then some 0
  else if code = 2#8 then some 1
  else if code = 3#8 then some 4
  else if code = 4#8 then some 16
  else if code = 5#8 then some 8
  else none

/-- `map_rom_bank()` (R86, R88, R89, R91). -/
def mapRomBank (cfg : Params) (c : Cart) : Nat :=
  match cfg.cartKind with
  | .none => 1
  | .mbc1 => ((if c.mbc1Mode then 0 else c.mbc1Hi2.toNat) * 32 + c.romBank5.toNat) % cfg.romBanks
  | .mbc3 => c.romBank7.toNat % cfg.romBanks
  | .mbc5 => c.romBank9.toNat % cfg.romBanks

/-- `map_ram_bank()`, for a cartridge with RAM (R88, R89, R91). -/
def mapRamBank (cfg : Params) (c : Cart) : Nat :=
  match cfg.cartKind with
  | .none => 0
  | .mbc1 => (if c.mbc1Mode then c.mbc1Hi2.toNat else 0) % cfg.ramBanks
  | .mbc3 => (c.mbc3Sel.extractLsb' 0 2).toNat % cfg.ramBanks
  | .mbc5 => c.ramBank4.toNat % cfg.ramBanks

/-- The RAM-enable port common to the three kinds (R87). -/
def Cart.writeRamEnable (c : Cart) (v : Byte) : Cart := { c with ramEnable := decide (v.setWidth 4 = 0xA#4) }

/-- MBC1 port writes, by the offset of the port in 0x0000 to 0x7FFF (R87, R88). -/
def Cart.writeMbc1 (c : Cart) (port : Nat) (v : Byte) : Cart :=
  if port < 0x2000 then c.writeRamEnable v
  else if port < 0x4000 then { c with romBank5 := if v.setWidth 5 = 0#5 then 1#5 else v.setWidth 5 }
  else if port < 0x6000 then { c with mbc1Hi2 := v.setWidth 2 }
  else { c with mbc1Mode := v.getLsbD 0 }

/-- MBC3 port writes; the latch port captures the live registers on 0x00 followed by 0x01 (R87, R89). -/
def Cart.writeMbc3 (c : Cart) (port : Nat) (v : Byte) : Cart :=
  if port < 0x2000 then c.writeRamEnable v
  else if port < 0x4000 then { c with romBank7 := if v.setWidth 7 = 0#7 then 1#7 else v.setWidth 7 }
  else if port < 0x6000 then { c with mbc3Sel := v.setWidth 4 }
  else
    { c with
      rtcLatched := if c.rtcLatchState = 0x00#8 ∧ v = 0x01#8 then c.rtcLive else c.rtcLatched
      rtcLatchState := v }

/-- MBC5 port writes (R87, R91). -/
def Cart.writeMbc5 (c : Cart) (port : Nat) (v : Byte) : Cart :=
  if port < 0x2000 then c.writeRamEnable v
  else if port < 0x3000 then { c with romBank9 := c.romBank9.extractLsb' 8 1 ++ v }
  else if port < 0x4000 then { c with romBank9 := v.extractLsb' 0 1 ++ c.romBank9.extractLsb' 0 8 }
  else if port < 0x6000 then { c with ramBank4 := v.setWidth 4 }
  else c

/-- A write to 0x0000 to 0x7FFF (R62, R63, R86). -/
def Cart.writePort (cfg : Params) (c : Cart) (port : Nat) (v : Byte) : Cart :=
  match cfg.cartKind with
  | .none => c
  | .mbc1 => c.writeMbc1 port v
  | .mbc3 => c.writeMbc3 port v
  | .mbc5 => c.writeMbc5 port v

/-- Register `i` of the clock stub, in the order of R90. -/
def rtcRead (r : Rtc) (i : Nat) : Byte :=
  match i with
  | 0 => r.seconds
  | 1 => r.minutes
  | 2 => r.hours
  | 3 => r.dayLow
  | _ => r.dayHigh

/-- Store into register `i` of the clock stub (R90). -/
def rtcWrite (r : Rtc) (i : Nat) (v : Byte) : Rtc :=
  match i with
  | 0 => { r with seconds := v }
  | 1 => { r with minutes := v }
  | 2 => { r with hours := v }
  | 3 => { r with dayLow := v }
  | _ => { r with dayHigh := v }

/-- What stands behind the external-RAM window: nothing, a byte of RAM, or a clock register (R65, R90). -/
inductive ExtTarget where
  | closed
  | ram (offset : Nat)
  | clock (register : Nat)
  deriving DecidableEq, Repr

/-- The target of window offset `off` (R65, R86, R90).  A cartridge without RAM closes the whole window, the MBC3 clock
registers included, as R65 and R92 say (log entry 5). -/
def extTarget (cfg : Params) (c : Cart) (off : Nat) : ExtTarget :=
  if c.ramEnable && decide (cfg.ramBanks ≠ 0) then
    match cfg.cartKind with
    | .none => .closed
    | .mbc1 => .ram (mapRamBank cfg c * 0x2000 + off)
    | .mbc3 =>
      if c.mbc3Sel.toNat ≤ 3 then .ram (mapRamBank cfg c * 0x2000 + off)
      else if 0x8 ≤ c.mbc3Sel.toNat ∧ c.mbc3Sel.toNat ≤ 0xC then .clock (c.mbc3Sel.toNat - 8)
      else .closed
    | .mbc5 => .ram (mapRamBank cfg c * 0x2000 + off)
  else .closed

/-- Read through the external-RAM window (R65, R90). -/
def State.extRead (s : State) (off : Nat) : Byte :=
  match extTarget s.cfg s.cart off with
  | .closed => 0xFF
  | .ram o => Cells.read s.mem.eram o
  | .clock i => rtcRead s.cart.rtcLatched i

/-- Write through the external-RAM window (R65, R90). -/
def State.extWrite (s : State) (off : Nat) (v : Byte) : State :=
  match extTarget s.cfg s.cart off with
  | .closed => s
  | .ram o => { s with mem.eram := Cells.write s.mem.eram o v }
  | .clock i => { s with cart.rtcLive := rtcWrite s.cart.rtcLive i v }

end Sys2Proof.Machine
end

