-- ==== Sys2Proof/Machine/Interrupts.lean ====
section
/-! DEFINITION. The interrupt controller (60_exceptions.md R347 to R350): requests, the pending set, the choice of a
source, the registers IF and IE. -/

namespace Sys2Proof.Machine

open Sys2Proof

/-- The five sources, in bit order (R347). -/
inductive Source where
  | vblank | stat | timer | serial | joypad
  deriving DecidableEq, Repr

/-- The bit of IF and IE that belongs to a source (R347). -/
def Source.index : Source → Nat
  | .vblank => 0
  | .stat => 1
  | .timer => 2
  | .serial => 3
  | .joypad => 4

/-- The fixed vector `0x0040 + 8 * i` (R351). -/
def Source.vector (i : Source) : Word := 0x0040#16 + BitVec.ofNat 16 (8 * i.index)

/-- `request(source)`: the IF bit becomes 1, whatever IE and IME hold (R349). -/
def Irq.request (q : Irq) (i : Source) : Irq := { q with flags := q.flags ||| (1#5 <<< i.index) }

/-- `request(source)` where a condition holds. -/
def Irq.requestIf (q : Irq) (cond : Bool) (i : Source) : Irq := if cond then q.request i else q

/-- Service clears the chosen source's IF bit (R351). -/
def Irq.acknowledge (q : Irq) (i : Source) : Irq := { q with flags := q.flags &&& ~~~(1#5 <<< i.index) }

/-- `IF & IE & 0x1F` (R340). -/
def Irq.pending (q : Irq) : BitVec 5 := q.flags &&& q.enable.setWidth 5

/-- The pending set of the machine. -/
def State.pending (s : State) : BitVec 5 := s.irq.pending

/-- The chosen source: the least index whose bit is set (R350). -/
def lowestSource (p : BitVec 5) : Option Source :=
  if p.getLsbD 0 then some .vblank
  else if p.getLsbD 1 then some .stat
  else if p.getLsbD 2 then some .timer
  else if p.getLsbD 3 then some .serial
  else if p.getLsbD 4 then some .joypad
  else none

/-- Read of IF: bits 7:5 read as 1 (R347). -/
def Irq.readFlags (q : Irq) : Byte := 0b111#3 ++ q.flags

/-- Write of IF: bits 4:0 are stored (R347). -/
def Irq.writeFlags (q : Irq) (v : Byte) : Irq := { q with flags := v.setWidth 5 }

/-- Write of IE: all 8 bits are stored (R348). -/
def Irq.writeEnable (q : Irq) (v : Byte) : Irq := { q with enable := v }

end Sys2Proof.Machine
end

