-- ==== Sys2Proof/Machine/Ports.lean ====
section
/-! DEFINITION. The serial stub and the joypad port (61_timer_dma_serial_joypad.md R405 to R412). -/

namespace Sys2Proof.Machine

open Sys2Proof

/-- Read of SC: bits 6:1 read 1 (R405). -/
def Serial.readControl (p : Serial) : Byte := BitVec.ofBool p.scStart ++ 0b111111#6 ++ BitVec.ofBool p.scClock

/-- A write of SC starts a transfer on the internal clock: bits 7 and 0 both set (R406). -/
def startsTransfer (v : Byte) : Bool := v.getLsbD 7 && v.getLsbD 0

/-- Write of SC: a started transfer completes inside the write (R406). -/
def Serial.writeControl (p : Serial) (v : Byte) : Serial :=
  if startsTransfer v then { sb := 0xFF, scStart := false, scClock := true, out := p.out ++ [p.sb] }
  else { p with scStart := v.getLsbD 7, scClock := v.getLsbD 0 }

/-- Write of SC on the machine, with the Serial request of a completed transfer (R406). -/
def State.writeSerialControl (s : State) (v : Byte) : State :=
  { s with serial := s.serial.writeControl v, irq := s.irq.requestIf (startsTransfer v) .serial }

/-- The direction lines: Down, Up, Left, Right as bits 3 to 0, 1 = pressed (R410). -/
def Joypad.directions (j : Joypad) : BitVec 4 :=
  j.buttons.extractLsb' 1 1 ++ j.buttons.extractLsb' 0 1 ++ j.buttons.extractLsb' 2 1 ++ j.buttons.extractLsb' 3 1

/-- The action lines: Start, Select, B, A as bits 3 to 0, 1 = pressed (R410). -/
def Joypad.actions (j : Joypad) : BitVec 4 := j.buttons.extractLsb' 4 4

/-- The active-low bits 3:0 of P1: a selected group pulls its pressed lines to 0 (R410). -/
def Joypad.lines (j : Joypad) : BitVec 4 :=
  0xF#4 &&& (if j.select.getLsbD 0 then 0xF#4 else ~~~j.directions) &&& (if j.select.getLsbD 1 then 0xF#4 else ~~~j.actions)

/-- Read of P1 (R410). -/
def Joypad.read (j : Joypad) : Byte := 0b11#2 ++ j.select ++ j.lines

/-- Write of P1: bits 5:4 are stored and nothing is requested (R411). -/
def Joypad.write (j : Joypad) (v : Byte) : Joypad := { j with select := v.extractLsb' 4 2 }

end Sys2Proof.Machine
end

