-- ==== Sys2Proof/Machine/Ppu.lean ====
section
/-! DEFINITION. The PPU: sprite selection, pixel generation, the mode state machine, the STAT line, its registers
(62_ppu.md R420 to R452). -/

namespace Sys2Proof.Machine

open Sys2Proof

/-- LCDC bit 7: the LCD is on (R426). -/
def Ppu.lcdOn (p : Ppu) : Bool := p.lcdc.getLsbD 7

/-- The value STAT bits 1:0 read for a mode (R420). -/
def Mode.code : Mode → BitVec 2
  | .hblank => 0
  | .vblank => 1
  | .oamScan => 2
  | .pixelTransfer => 3

/-- Entry `ci` of a palette: bits `2*ci+1 : 2*ci` (R430). -/
def shadeOf (palette : Byte) (ci : Nat) : BitVec 2 := palette.extractLsb' (2 * ci) 2

/-- The colour index of column bit `b` of a tile row with planes `lo` and `hi` (R444). -/
def planeIndex (lo hi : Byte) (b : Nat) : Nat := 2 * (hi.getLsbD b).toNat + (lo.getLsbD b).toNat

/-- The height of a sprite (R426 bit 2). -/
def Ppu.spriteHeight (p : Ppu) : Nat := if p.lcdc.getLsbD 2 then 16 else 8

/-- Byte `k` of OAM entry `n` as a number (R432). -/
def oamByte (oam : Memory) (n k : Nat) : Nat := (Cells.read oam (4 * n + k)).toNat

/-- Entry `n` covers the current line (R433). -/
def Ppu.covers (p : Ppu) (oam : Memory) (n : Nat) : Bool :=
  decide (oamByte oam n 0 ≤ p.ly + 16) && decide (p.ly + 16 < oamByte oam n 0 + p.spriteHeight)

/-- Insert entry `n` after every entry whose X is not larger, which keeps the sort stable (R433). -/
def insertByX (oam : Memory) (n : Nat) : List Nat → List Nat
  | [] => [n]
  | m :: rest => if oamByte oam m 1 ≤ oamByte oam n 1 then m :: insertByX oam n rest else n :: m :: rest

/-- The list stably sorted by increasing X (R433). -/
def sortByX (oam : Memory) (sel : List Nat) : List Nat := sel.foldl (fun acc n => insertByX oam n acc) []

/-- `SelectSprites()`: the first ten covering entries in OAM order, sorted by X (R433). -/
def Ppu.selectSprites (p : Ppu) (oam : Memory) : List Nat :=
  sortByX oam (((List.range 40).filter (p.covers oam)).take 10)

/-- The window is visible on the current line, as the PixelTransfer length asks it (R434). -/
def Ppu.windowOnLine (p : Ppu) : Bool :=
  p.lcdc.getLsbD 5 && decide (p.wy.toNat ≤ p.ly) && decide (p.wx.toNat ≤ 166)

/-- `MODE3_EXTRA()` for `sprites` selected sprites: the parameter's table entry, bounded by 204 (R434). -/
def Ppu.mode3Extra (p : Ppu) (table : List Nat) (sprites : Nat) : Nat :=
  min 204 (table.getD (sprites + 11 * p.windowOnLine.toNat) 0)

/-- `win(x, y)` (R441). -/
def Ppu.windowAt (p : Ppu) (x y : Nat) : Bool :=
  p.lcdc.getLsbD 5 && decide (p.wy.toNat ≤ y) && decide (p.wx.toNat ≤ x + 7)

/-- The offset in VRAM of the chosen tile map: 0x9800 or 0x9C00 less 0x8000 (R442). -/
def mapBase (high : Bool) : Nat := if high then 0x1C00 else 0x1800

/-- The offset in VRAM of the tile's 16 bytes (R443). -/
def Ppu.tileBase (p : Ppu) (tile : Byte) : Nat :=
  if p.lcdc.getLsbD 4 then tile.toNat * 16 else ((0x1000 : Int) + tile.toInt * 16).toNat

/-- The colour index at position `(px, py)` of the map whose VRAM offset is `map` (R442 to R444). -/
def Ppu.tileIndex (p : Ppu) (vram : Memory) (map px py : Nat) : Nat :=
  let base := p.tileBase (Cells.read vram (map + py / 8 * 32 + px / 8))
  planeIndex (Cells.read vram (base + 2 * (py % 8))) (Cells.read vram (base + 2 * (py % 8) + 1)) (7 - px % 8)

/-- `BgWinIndex(x, y)` (R441 to R445). -/
def Ppu.bgWinIndex (p : Ppu) (vram : Memory) (x y : Nat) : Nat :=
  if p.lcdc.getLsbD 0 then
    if p.windowAt x y then p.tileIndex vram (mapBase (p.lcdc.getLsbD 6)) (x + 7 - p.wx.toNat) (y - p.wy.toNat)
    else p.tileIndex vram (mapBase (p.lcdc.getLsbD 3)) ((x + p.scx.toNat) % 256) ((y + p.scy.toNat) % 256)
  else 0

/-- The row of a sprite after the vertical flip (R446). -/
def flipRow (attr : Byte) (height row : Nat) : Nat := if attr.getLsbD 6 then height - 1 - row else row

/-- `SpriteIndex(n, x, y)`: the colour index of entry `n` at the pixel, `none` where it does not cover it (R446). -/
def Ppu.spriteIndex (p : Ppu) (vram oam : Memory) (n x y : Nat) : Option Nat :=
  let top := oamByte oam n 0
  let left := oamByte oam n 1
  let h := p.spriteHeight
  let attr := Cells.read oam (4 * n + 3)
  if left ≤ x + 8 ∧ x + 8 - left ≤ 7 ∧ top ≤ y + 16 ∧ y + 16 - top < h then
    let tileByte := Cells.read oam (4 * n + 2)
    let tile := (if h = 16 then tileByte &&& 0xFE#8 else tileByte).toNat
    let at' := tile * 16 + 2 * flipRow attr h (y + 16 - top)
    let sx := x + 8 - left
    some (planeIndex (Cells.read vram at') (Cells.read vram (at' + 1)) (if attr.getLsbD 5 then sx else 7 - sx))
  else none

/-- The first opaque sprite pixel in the order of `line_sprites`: its entry and colour index (R440, R447). -/
def Ppu.firstOpaque (p : Ppu) (vram oam : Memory) (x y : Nat) : List Nat → Option (Nat × Nat)
  | [] => none
  | n :: rest =>
    match p.spriteIndex vram oam n x y with
    | some ci => if ci = 0 then p.firstOpaque vram oam x y rest else some (n, ci)
    | none => p.firstOpaque vram oam x y rest

/-- `Pixel(x, y)` (R440). -/
def Ppu.pixel (p : Ppu) (vram oam : Memory) (x y : Nat) : BitVec 2 :=
  let bg := p.bgWinIndex vram x y
  if p.lcdc.getLsbD 1 then
    match p.firstOpaque vram oam x y p.lineSprites with
    | some (n, ci) =>
      let attr := Cells.read oam (4 * n + 3)
      if attr.getLsbD 7 = false ∨ bg = 0 then shadeOf (if attr.getLsbD 4 then p.obp1 else p.obp0) ci
      else shadeOf p.bgp bg
    | none => shadeOf p.bgp bg
  else shadeOf p.bgp bg

/-- The pixel store of a tick: dot `80 + x` in PixelTransfer writes `FB[LY][x]` (R421). -/
def Ppu.drawDot (p : Ppu) (vram oam : Memory) : Ppu :=
  if p.mode = .pixelTransfer ∧ 80 ≤ p.dot ∧ p.dot < 240 then
    { p with fb := Cells.write p.fb (160 * p.ly + (p.dot - 80)) (p.pixel vram oam (p.dot - 80) p.ly) }
  else p

/-- The position after a tick: the dot, and at dot 456 the next line mod 154 (R421). -/
def Ppu.nextDot (p : Ppu) : Ppu :=
  if p.dot + 1 = 456 then { p with dot := 0, ly := (p.ly + 1) % 154 } else { p with dot := p.dot + 1 }

/-- The mode transition at the new position (R421). -/
def Ppu.transition (p : Ppu) (oam : Memory) (table : List Nat) : Ppu :=
  if 144 ≤ p.ly then
    if p.ly = 144 ∧ p.dot = 0 then { p with mode := .vblank, frameReady := true } else p
  else if p.dot = 0 then { p with mode := .oamScan }
  else if p.dot = 80 then
    { p with
      lineSprites := p.selectSprites oam
      mode3Len := 172 + p.mode3Extra table (p.selectSprites oam).length
      mode := .pixelTransfer }
  else if p.dot = 80 + p.mode3Len then { p with mode := .hblank }
  else p

/-- The OR of the enabled STAT conditions (R437). -/
def Ppu.statCondition (p : Ppu) : Bool :=
  (p.statEnable.getLsbD 3 && decide (p.ly = p.lyc.toNat)) || (p.statEnable.getLsbD 2 && decide (p.mode = .oamScan))
    || (p.statEnable.getLsbD 1 && decide (p.mode = .vblank)) || (p.statEnable.getLsbD 0 && decide (p.mode = .hblank))

/-- The level of the STAT line: 0 while the LCD is off (R437). -/
def Ppu.statLevel (p : Ppu) : Bool := p.lcdOn && p.statCondition

/-- `UpdateStatLine()` requests STAT on a 0 to 1 edge of the line (R437). -/
def Ppu.statRises (p : Ppu) : Bool := p.statLevel && !p.statLine

/-- The line after `UpdateStatLine()` (R437). -/
def Ppu.updateStatLine (p : Ppu) : Ppu := { p with statLine := p.statLevel }

/-- The PPU after the pixel, the position and the mode of a tick, before the STAT line (R421). -/
def Ppu.moved (p : Ppu) (vram oam : Memory) (table : List Nat) : Ppu :=
  ((p.drawDot vram oam).nextDot).transition oam table

/-- The PPU's own part of `PpuTick()`: nothing while the LCD is off (R421, R450). -/
def Ppu.tick (p : Ppu) (vram oam : Memory) (table : List Nat) : Ppu :=
  if p.lcdOn then (p.moved vram oam table).updateStatLine else p

/-- This tick enters line 144 (R421, R436). -/
def Ppu.entersVBlank (p : Ppu) : Bool := p.lcdOn && decide (p.nextDot.ly = 144) && decide (p.nextDot.dot = 0)

/-- This tick raises the STAT line (R437). -/
def Ppu.raisesStat (p : Ppu) (vram oam : Memory) (table : List Nat) : Bool :=
  p.lcdOn && (p.moved vram oam table).statRises

/-- `PpuTick()` (R421). -/
def State.ppuTick (s : State) : State :=
  { s with
    ppu := s.ppu.tick s.mem.vram s.mem.oam s.cfg.mode3Extra
    irq := (s.irq.requestIf s.ppu.entersVBlank .vblank).requestIf
      (s.ppu.raisesStat s.mem.vram s.mem.oam s.cfg.mode3Extra) .stat }

/-- `UpdateStatLine()` on the machine, after a register write (R437, R451). -/
def State.updateStatLine (s : State) : State :=
  { s with ppu := s.ppu.updateStatLine, irq := s.irq.requestIf s.ppu.statRises .stat }

/-- Turning the LCD off: position and framebuffer are cleared (R450). -/
def Ppu.turnOff (p : Ppu) : Ppu :=
  { p with ly := 0, dot := 0, mode := .hblank, lineSprites := [], statLine := false, fb := [], frameReady := true }

/-- Turning the LCD on: line 0, dot 0, OamScan (R450). -/
def Ppu.turnOn (p : Ppu) : Ppu := { p with ly := 0, dot := 0, mode := .oamScan }

/-- LCDC stored, with the effect of a change of bit 7 (R426, R450). -/
def Ppu.writeLcdc (p : Ppu) (v : Byte) : Ppu :=
  let q : Ppu := { p with lcdc := v }
  if p.lcdOn && !q.lcdOn then q.turnOff
  else if !p.lcdOn && q.lcdOn then q.turnOn
  else q

/-- Read of STAT (R427). -/
def Ppu.readStat (p : Ppu) : Byte :=
  1#1 ++ p.statEnable ++ BitVec.ofBool (decide (p.ly = p.lyc.toNat)) ++ (if p.lcdOn then p.mode.code else 0#2)

/-- Write of STAT: bits 6:3 are stored (R427). -/
def Ppu.writeStat (p : Ppu) (v : Byte) : Ppu := { p with statEnable := v.extractLsb' 3 4 }

end Sys2Proof.Machine
end

