-- ==== Sys2Proof/Machine/Timer.lean ====
section
/-! DEFINITION. The timer (61_timer_dma_serial_joypad.md R380 to R389). -/

namespace Sys2Proof.Machine

open Sys2Proof

/-- `sel(TAC[1:0])`: the bit of `DIVCNT` that drives TIMA (R383). -/
def Timer.selectedBit (tm : Timer) : Nat :=
  if tm.tac.extractLsb' 0 2 = 0b00#2 then 9
  else if tm.tac.extractLsb' 0 2 = 0b01#2 then 3
  else if tm.tac.extractLsb' 0 2 = 0b10#2 then 5
  else 7

/-- `TAC[2]` (R382). -/
def Timer.counting (tm : Timer) : Bool := tm.tac.getLsbD 2

/-- `TimaIncrement()` (R385). -/
def Timer.increment (tm : Timer) : Timer :=
  if tm.tima = 0xFF#8 then { tm with tima := 0x00, reloadPending := true } else { tm with tima := tm.tima + 1 }

/-- The reload one tick after an overflow (R386). -/
def Timer.reload (tm : Timer) : Timer :=
  if tm.reloadPending then { tm with tima := tm.tma, reloadPending := false } else tm

/-- The divider counts one T-cycle; TIMA increments where the selected bit falls and counting is enabled (R384). -/
def Timer.count (tm : Timer) : Timer :=
  let next : Timer := { tm with divcnt := tm.divcnt + 1 }
  if tm.counting && tm.divcnt.getLsbD tm.selectedBit && !next.divcnt.getLsbD tm.selectedBit then next.increment else next

/-- The timer's own part of `TimerTick()` (R384). -/
def Timer.tick (tm : Timer) : Timer := tm.reload.count

/-- `TimerTick()`: the tick and the Timer request at the reload (R384, R386). -/
def State.timerTick (s : State) : State :=
  { s with timer := s.timer.tick, irq := s.irq.requestIf s.timer.reloadPending .timer }

/-- Write to DIV: the divider is cleared, which lets the selected bit fall (R387). -/
def Timer.writeDiv (tm : Timer) : Timer :=
  let bumped := if tm.counting && tm.divcnt.getLsbD tm.selectedBit then tm.increment else tm
  { bumped with divcnt := 0 }

/-- Read of DIV: `DIVCNT[15:8]` (R380). -/
def Timer.readDiv (tm : Timer) : Byte := tm.divcnt.extractLsb' 8 8

/-- Read of TAC: bits 7:3 read 1 (R382). -/
def Timer.readTac (tm : Timer) : Byte := 0b11111#5 ++ tm.tac

/-- Write of TAC: bits 2:0 are stored and nothing else happens (R382). -/
def Timer.writeTac (tm : Timer) (v : Byte) : Timer := { tm with tac := v.setWidth 3 }

end Sys2Proof.Machine
end

