-- ==== Sys2Proof/Machine/Bus.lean ====
section
/-! DEFINITION. The bus dispatcher: the address map, the I/O registers, `BusRead`, `BusWrite` and the CPU's view of
them during DMA (20_memory.md R60 to R99, 10_state.md R33). -/

namespace Sys2Proof.Machine

open Sys2Proof

/-- Where an address leads (R61), with the offset inside the region; echo RAM is the work RAM it aliases (R67). -/
inductive Region where
  | rom0 (off : Nat)
  | romX (off : Nat)
  | vram (off : Nat)
  | ext (off : Nat)
  | wram (off : Nat)
  | oam (off : Nat)
  | unmapped
  | io (off : Nat)
  | hram (off : Nat)
  | ie
  deriving DecidableEq, Repr

/-- The address map (R61). -/
def regionOf (a : Word) : Region :=
  let n := a.toNat
  if n < 0x4000 then .rom0 n
  else if n < 0x8000 then .romX (n - 0x4000)
  else if n < 0xA000 then .vram (n - 0x8000)
  else if n < 0xC000 then .ext (n - 0xA000)
  else if n < 0xE000 then .wram (n - 0xC000)
  else if n < 0xFE00 then .wram (n - 0xE000)
  else if n < 0xFEA0 then .oam (n - 0xFE00)
  else if n < 0xFF00 then .unmapped
  else if n < 0xFF80 then .io (n - 0xFF00)
  else if n < 0xFFFF then .hram (n - 0xFF80)
  else .ie

/-- The I/O registers of 10_state.md R33. -/
inductive IoReg where
  | p1 | sb | sc | div | tima | tma | tac | iflag
  | nr10 | nr11 | nr12 | nr13 | nr14
  | nr21 | nr22 | nr23 | nr24
  | nr30 | nr31 | nr32 | nr33 | nr34
  | nr41 | nr42 | nr43 | nr44
  | nr50 | nr51 | nr52
  | wave (i : Nat)
  | lcdc | stat | scy | scx | ly | lyc | dma | bgp | obp0 | obp1 | wy | wx
  deriving DecidableEq, Repr

/-- The register at offset `off` of the I/O window; `none` where R33 lists none (R76). -/
def ioRegAt (off : Nat) : Option IoReg :=
  match off with
  | 0x00 => some .p1
  | 0x01 => some .sb
  | 0x02 => some .sc
  | 0x04 => some .div
  | 0x05 => some .tima
  | 0x06 => some .tma
  | 0x07 => some .tac
  | 0x0F => some .iflag
  | 0x10 => some .nr10
  | 0x11 => some .nr11
  | 0x12 => some .nr12
  | 0x13 => some .nr13
  | 0x14 => some .nr14
  | 0x16 => some .nr21
  | 0x17 => some .nr22
  | 0x18 => some .nr23
  | 0x19 => some .nr24
  | 0x1A => some .nr30
  | 0x1B => some .nr31
  | 0x1C => some .nr32
  | 0x1D => some .nr33
  | 0x1E => some .nr34
  | 0x20 => some .nr41
  | 0x21 => some .nr42
  | 0x22 => some .nr43
  | 0x23 => some .nr44
  | 0x24 => some .nr50
  | 0x25 => some .nr51
  | 0x26 => some .nr52
  | 0x40 => some .lcdc
  | 0x41 => some .stat
  | 0x42 => some .scy
  | 0x43 => some .scx
  | 0x44 => some .ly
  | 0x45 => some .lyc
  | 0x46 => some .dma
  | 0x47 => some .bgp
  | 0x48 => some .obp0
  | 0x49 => some .obp1
  | 0x4A => some .wy
  | 0x4B => some .wx
  | _ => if 0x30 ≤ off ∧ off < 0x40 then some (.wave (off - 0x30)) else none

/-- What a read of an I/O register returns: stored bits, unused and write-only bits 1 (R76; 63_apu.md R470). -/
def State.ioRead (s : State) (r : IoReg) : Byte :=
  match r with
  | .p1 => s.joypad.read
  | .sb => s.serial.sb
  | .sc => s.serial.readControl
  | .div => s.timer.readDiv
  | .tima => s.timer.tima
  | .tma => s.timer.tma
  | .tac => s.timer.readTac
  | .iflag => s.irq.readFlags
  | .nr10 => s.apu.nr10 ||| 0x80
  | .nr11 => s.apu.nr11 ||| 0x3F
  | .nr12 => s.apu.nr12
  | .nr13 => s.apu.nr13 ||| 0xFF
  | .nr14 => s.apu.nr14 ||| 0xBF
  | .nr21 => s.apu.nr21 ||| 0x3F
  | .nr22 => s.apu.nr22
  | .nr23 => s.apu.nr23 ||| 0xFF
  | .nr24 => s.apu.nr24 ||| 0xBF
  | .nr30 => s.apu.nr30 ||| 0x7F
  | .nr31 => s.apu.nr31 ||| 0xFF
  | .nr32 => s.apu.nr32 ||| 0x9F
  | .nr33 => s.apu.nr33 ||| 0xFF
  | .nr34 => s.apu.nr34 ||| 0xBF
  | .nr41 => s.apu.nr41 ||| 0xFF
  | .nr42 => s.apu.nr42
  | .nr43 => s.apu.nr43
  | .nr44 => s.apu.nr44 ||| 0xBF
  | .nr50 => s.apu.nr50
  | .nr51 => s.apu.nr51
  | .nr52 => s.apu.readNr52
  | .wave i => Cells.read s.mem.wave i
  | .lcdc => s.ppu.lcdc
  | .stat => s.ppu.readStat
  | .scy => s.ppu.scy
  | .scx => s.ppu.scx
  | .ly => BitVec.ofNat 8 s.ppu.ly
  | .lyc => s.ppu.lyc
  | .dma => s.dma.src
  | .bgp => s.ppu.bgp
  | .obp0 => s.ppu.obp0
  | .obp1 => s.ppu.obp1
  | .wy => s.ppu.wy
  | .wx => s.ppu.wx

/-- The DMA trigger: a transfer of 160 bytes from page `v` begins (61_timer_dma_serial_joypad.md R395). -/
def Dma.start (v : Byte) : Dma := { active := true, src := v, remaining := 160, sub := 0 }

/-- A write of an APU register 0xFF10 to 0xFF25 while the APU is powered (63_apu.md R473 to R477, R494 to R497); any
other register is left alone here. -/
def Apu.writePowered (a : Apu) (r : IoReg) (v : Byte) : Apu :=
  match r with
  | .nr10 => { a with nr10 := v &&& 0x7F#8 }
  | .nr11 => { a with nr11 := v, ch1.length := lengthLoad v }
  | .nr12 => { a with nr12 := v, ch1.enabled := a.ch1.enabled && dacOn v }
  | .nr13 => { a with nr13 := v }
  | .nr14 => if v.getLsbD 7 then Apu.trigger1 { a with nr14 := storedNrx4 v } else { a with nr14 := storedNrx4 v }
  | .nr21 => { a with nr21 := v, ch2.length := lengthLoad v }
  | .nr22 => { a with nr22 := v, ch2.enabled := a.ch2.enabled && dacOn v }
  | .nr23 => { a with nr23 := v }
  | .nr24 => if v.getLsbD 7 then Apu.trigger2 { a with nr24 := storedNrx4 v } else { a with nr24 := storedNrx4 v }
  | .nr30 => { a with nr30 := v &&& 0x80#8, ch3.enabled := a.ch3.enabled && v.getLsbD 7 }
  | .nr31 => { a with nr31 := v, ch3.length := 256 - v.toNat }
  | .nr32 => { a with nr32 := v &&& 0x60#8 }
  | .nr33 => { a with nr33 := v }
  | .nr34 => if v.getLsbD 7 then Apu.trigger3 { a with nr34 := storedNrx4 v } else { a with nr34 := storedNrx4 v }
  | .nr41 => { a with nr41 := v &&& 0x3F#8, ch4.length := lengthLoad v }
  | .nr42 => { a with nr42 := v, ch4.enabled := a.ch4.enabled && dacOn v }
  | .nr43 => { a with nr43 := v }
  | .nr44 => if v.getLsbD 7 then Apu.trigger4 { a with nr44 := v &&& 0x40#8 } else { a with nr44 := v &&& 0x40#8 }
  | .nr50 => { a with nr50 := v }
  | .nr51 => { a with nr51 := v }
  | _ => a

/-- A write of an APU register 0xFF10 to 0xFF25: ignored while the APU is off (63_apu.md R470). -/
def State.apuWrite (s : State) (r : IoReg) (v : Byte) : State :=
  { s with apu := if s.apu.power then s.apu.writePowered r v else s.apu }

/-- What a write of an I/O register does (R96 and the register rules of 10_state.md R33). -/
def State.ioWrite (s : State) (r : IoReg) (v : Byte) : State :=
  match r with
  | .p1 => { s with joypad := s.joypad.write v }
  | .sb => { s with serial.sb := v }
  | .sc => s.writeSerialControl v
  | .div => { s with timer := s.timer.writeDiv }
  | .tima => { s with timer.tima := v }
  | .tma => { s with timer.tma := v }
  | .tac => { s with timer := s.timer.writeTac v }
  | .iflag => { s with irq := s.irq.writeFlags v }
  | .nr10 => s.apuWrite .nr10 v
  | .nr11 => s.apuWrite .nr11 v
  | .nr12 => s.apuWrite .nr12 v
  | .nr13 => s.apuWrite .nr13 v
  | .nr14 => s.apuWrite .nr14 v
  | .nr21 => s.apuWrite .nr21 v
  | .nr22 => s.apuWrite .nr22 v
  | .nr23 => s.apuWrite .nr23 v
  | .nr24 => s.apuWrite .nr24 v
  | .nr30 => s.apuWrite .nr30 v
  | .nr31 => s.apuWrite .nr31 v
  | .nr32 => s.apuWrite .nr32 v
  | .nr33 => s.apuWrite .nr33 v
  | .nr34 => s.apuWrite .nr34 v
  | .nr41 => s.apuWrite .nr41 v
  | .nr42 => s.apuWrite .nr42 v
  | .nr43 => s.apuWrite .nr43 v
  | .nr44 => s.apuWrite .nr44 v
  | .nr50 => s.apuWrite .nr50 v
  | .nr51 => s.apuWrite .nr51 v
  | .nr52 => { s with apu := s.apu.writeNr52 v }
  | .wave i => { s with mem.wave := Cells.write s.mem.wave i v }
  | .lcdc => State.updateStatLine { s with ppu := s.ppu.writeLcdc v }
  | .stat => State.updateStatLine { s with ppu := s.ppu.writeStat v }
  | .scy => { s with ppu.scy := v }
  | .scx => { s with ppu.scx := v }
  | .ly => s
  | .lyc => State.updateStatLine { s with ppu.lyc := v }
  | .dma => { s with dma := Dma.start v }
  | .bgp => { s with ppu.bgp := v }
  | .obp0 => { s with ppu.obp0 := v }
  | .obp1 => { s with ppu.obp1 := v }
  | .wy => { s with ppu.wy := v }
  | .wx => { s with ppu.wx := v }

/-- `BusRead(a)`: no state changes (R62 to R72, R76, R96). -/
def State.busRead (s : State) (a : Word) : Byte :=
  match regionOf a with
  | .rom0 o => Cells.read s.mem.rom o
  | .romX o => Cells.read s.mem.rom (mapRomBank s.cfg s.cart * 0x4000 + o)
  | .vram o => Cells.read s.mem.vram o
  | .ext o => s.extRead o
  | .wram o => Cells.read s.mem.wram o
  | .oam o => Cells.read s.mem.oam o
  | .unmapped => 0xFF
  | .io o =>
    match ioRegAt o with
    | some r => s.ioRead r
    | none => 0xFF
  | .hram o => Cells.read s.mem.hram o
  | .ie => s.irq.enable

/-- `BusWrite(a, v)` (R62 to R73, R76, R96). -/
def State.busWrite (s : State) (a : Word) (v : Byte) : State :=
  match regionOf a with
  | .rom0 o => { s with cart := s.cart.writePort s.cfg o v }
  | .romX o => { s with cart := s.cart.writePort s.cfg (0x4000 + o) v }
  | .vram o => { s with mem.vram := Cells.write s.mem.vram o v }
  | .ext o => s.extWrite o v
  | .wram o => { s with mem.wram := Cells.write s.mem.wram o v }
  | .oam o => { s with mem.oam := Cells.write s.mem.oam o v }
  | .unmapped => s
  | .io o =>
    match ioRegAt o with
    | some r => s.ioWrite r v
    | none => s
  | .hram o => { s with mem.hram := Cells.write s.mem.hram o v }
  | .ie => { s with irq := s.irq.writeEnable v }

/-- The address lies in 0xFF80 to 0xFFFE, all the CPU can reach during DMA (R71, R98). -/
def inHram (a : Word) : Bool := decide (0xFF80 ≤ a.toNat) && decide (a.toNat < 0xFFFF)

/-- A DMA transfer shuts the CPU out of the address (R98, R99). -/
def State.blocked (s : State) (a : Word) : Bool := s.dma.active && !inHram a

/-- `CpuBusRead(a)` (R98). -/
def State.cpuRead (s : State) (a : Word) : Byte := if s.blocked a then 0xFF else s.busRead a

/-- `CpuBusWrite(a, v)` (R99). -/
def State.cpuWrite (s : State) (a : Word) (v : Byte) : State := if s.blocked a then s else s.busWrite a v

end Sys2Proof.Machine
end

