-- ==== Sys2Proof/Machine/Dma.lean ====
section
/-! DEFINITION. The OAM DMA engine's tick (61_timer_dma_serial_joypad.md R396, R397). -/

namespace Sys2Proof.Machine

open Sys2Proof

/-- This tick copies a byte: the engine is active and its 4-tick quantum is full (R397). -/
def Dma.copies (d : Dma) : Bool := d.active && decide (d.sub + 1 = 4)

/-- The index of the byte being copied (R397). -/
def Dma.index (d : Dma) : Nat := 160 - d.remaining

/-- The address of the byte being copied (R396). -/
def Dma.source (d : Dma) : Word := joinBytes 0x00 d.src + BitVec.ofNat 16 d.index

/-- The engine's counters after a tick (R397). -/
def Dma.tick (d : Dma) : Dma :=
  if d.copies then { d with sub := 0, remaining := d.remaining - 1, active := decide (d.remaining - 1 ≠ 0) }
  else if d.active then { d with sub := d.sub + 1 }
  else d

/-- `DmaTick()`: the source byte is read with `BusRead`, not with the CPU's restricted read (R396, R397). -/
def State.dmaTick (s : State) : State :=
  { s with
    dma := s.dma.tick
    mem.oam := if s.dma.copies then Cells.write s.mem.oam s.dma.index (s.busRead s.dma.source) else s.mem.oam }

end Sys2Proof.Machine
end

