-- ==== Sys2Proof/Machine/Advance.lean ====
section
/-! DEFINITION. `Advance`, the one synchronisation primitive (20_memory.md R100). -/

namespace Sys2Proof.Machine

open Sys2Proof

/-- One T-cycle: Timer, DMA, PPU, APU in this order, then `T` (R100). -/
def State.tick (s : State) : State :=
  let u := s.timerTick.dmaTick.ppuTick.apuTick
  { u with t := u.t + 1 }

/-- `Advance(n)`: `n` one-T-cycle ticks (R100). -/
def State.advance : Nat → State → State
  | 0, s => s
  | n + 1, s => State.advance n s.tick

end Sys2Proof.Machine
end

