-- ==== Sys2Proof/Syntax.lean ====
section
/-! DEFINITION. The instruction set: one constructor per row of spec/opcode_table.json, named by
the row's mnemonic (`atHL` is `(HL)`, `atHLinc` `(HL+)`, `atHLdec` `(HL-)`), with the immediate byte or word that follows
the opcode as its argument (30_encoding.md R120, R128 to R132).  The table's order, but for the quarter 0xC0 to 0xFF,
which comes second: Lean compiles a constructor with an argument only among the first 244. -/

namespace Sys2Proof

/-- The register codes 0 to 5 and 7 of `r8` (R124). -/
inductive Reg where
  | b | c | d | e | h | l | a
  deriving DecidableEq, Repr

/-- The pairs of table `rp` (R125). -/
inductive Pair where
  | bc | de | hl | sp
  deriving DecidableEq, Repr

/-- The pairs of table `rp2`, for PUSH and POP (R125). -/
inductive StackPair where
  | bc | de | hl | af
  deriving DecidableEq, Repr

/-- The condition codes (R126). -/
inductive Cond where
  | nz | z | nc | c
  deriving DecidableEq, Repr

/-- The ALU operations (R127). -/
inductive Alu where
  | add | adc | sub | sbc | and | xor | or | cp
  deriving DecidableEq, Repr

/-- The rotate and shift operations (R127). -/
inductive Rot where
  | rlc | rrc | rl | rr | sla | sra | swap | srl
  deriving DecidableEq, Repr

/-- The instructions.  `prefixCB op2` is the table's prefix row (R325): it names no words of its own, since the words
`CB op2` are those of the 256 CB rows, to which the decoder takes them; `stop` keeps its ignored second byte (R322). -/
inductive Instr where
  | nop | ld_bc_d16 (d16 : Word) | ld_atBC_a | inc_bc | inc_b | dec_b | ld_b_d8 (d8 : Byte) | rlca
  | ld_atA16_sp (a16 : Word) | add_hl_bc | ld_a_atBC | dec_bc | inc_c | dec_c | ld_c_d8 (d8 : Byte) | rrca
  | stop (d8 : Byte) | ld_de_d16 (d16 : Word) | ld_atDE_a | inc_de | inc_d | dec_d | ld_d_d8 (d8 : Byte) | rla
  | jr_e8 (e8 : Byte) | add_hl_de | ld_a_atDE | dec_de | inc_e | dec_e | ld_e_d8 (d8 : Byte) | rra
  | jr_nz_e8 (e8 : Byte) | ld_hl_d16 (d16 : Word) | ld_atHLinc_a | inc_hl | inc_h | dec_h | ld_h_d8 (d8 : Byte) | daa
  | jr_z_e8 (e8 : Byte) | add_hl_hl | ld_a_atHLinc | dec_hl | inc_l | dec_l | ld_l_d8 (d8 : Byte) | cpl
  | jr_nc_e8 (e8 : Byte) | ld_sp_d16 (d16 : Word) | ld_atHLdec_a | inc_sp | inc_atHL | dec_atHL
  | ld_atHL_d8 (d8 : Byte) | scf
  | jr_c_e8 (e8 : Byte) | add_hl_sp | ld_a_atHLdec | dec_sp | inc_a | dec_a | ld_a_d8 (d8 : Byte) | ccf
  | ret_nz | pop_bc | jp_nz_a16 (a16 : Word) | jp_a16 (a16 : Word) | call_nz_a16 (a16 : Word) | push_bc
  | add_a_d8 (d8 : Byte) | rst_00
  | ret_z | ret | jp_z_a16 (a16 : Word) | prefixCB (op2 : Byte) | call_z_a16 (a16 : Word) | call_a16 (a16 : Word)
  | adc_a_d8 (d8 : Byte) | rst_08
  | ret_nc | pop_de | jp_nc_a16 (a16 : Word) | illegal_d3 | call_nc_a16 (a16 : Word) | push_de | sub_d8 (d8 : Byte)
  | rst_10
  | ret_c | reti | jp_c_a16 (a16 : Word) | illegal_db | call_c_a16 (a16 : Word) | illegal_dd | sbc_a_d8 (d8 : Byte)
  | rst_18
  | ldh_atA8_a (a8 : Byte) | pop_hl | ldh_atC_a | illegal_e3 | illegal_e4 | push_hl | and_d8 (d8 : Byte) | rst_20
  | add_sp_e8 (e8 : Byte) | jp_hl | ld_atA16_a (a16 : Word) | illegal_eb | illegal_ec | illegal_ed
  | xor_d8 (d8 : Byte) | rst_28
  | ldh_a_atA8 (a8 : Byte) | pop_af | ldh_a_atC | di | illegal_f4 | push_af | or_d8 (d8 : Byte) | rst_30
  | ld_hl_spE8 (e8 : Byte) | ld_sp_hl | ld_a_atA16 (a16 : Word) | ei | illegal_fc | illegal_fd | cp_d8 (d8 : Byte)
  | rst_38
  | ld_b_b | ld_b_c | ld_b_d | ld_b_e | ld_b_h | ld_b_l | ld_b_atHL | ld_b_a
  | ld_c_b | ld_c_c | ld_c_d | ld_c_e | ld_c_h | ld_c_l | ld_c_atHL | ld_c_a
  | ld_d_b | ld_d_c | ld_d_d | ld_d_e | ld_d_h | ld_d_l | ld_d_atHL | ld_d_a
  | ld_e_b | ld_e_c | ld_e_d | ld_e_e | ld_e_h | ld_e_l | ld_e_atHL | ld_e_a
  | ld_h_b | ld_h_c | ld_h_d | ld_h_e | ld_h_h | ld_h_l | ld_h_atHL | ld_h_a
  | ld_l_b | ld_l_c | ld_l_d | ld_l_e | ld_l_h | ld_l_l | ld_l_atHL | ld_l_a
  | ld_atHL_b | ld_atHL_c | ld_atHL_d | ld_atHL_e | ld_atHL_h | ld_atHL_l | halt | ld_atHL_a
  | ld_a_b | ld_a_c | ld_a_d | ld_a_e | ld_a_h | ld_a_l | ld_a_atHL | ld_a_a
  | add_a_b | add_a_c | add_a_d | add_a_e | add_a_h | add_a_l | add_a_atHL | add_a_a
  | adc_a_b | adc_a_c | adc_a_d | adc_a_e | adc_a_h | adc_a_l | adc_a_atHL | adc_a_a
  | sub_b | sub_c | sub_d | sub_e | sub_h | sub_l | sub_atHL | sub_a
  | sbc_a_b | sbc_a_c | sbc_a_d | sbc_a_e | sbc_a_h | sbc_a_l | sbc_a_atHL | sbc_a_a
  | and_b | and_c | and_d | and_e | and_h | and_l | and_atHL | and_a
  | xor_b | xor_c | xor_d | xor_e | xor_h | xor_l | xor_atHL | xor_a
  | or_b | or_c | or_d | or_e | or_h | or_l | or_atHL | or_a
  | cp_b | cp_c | cp_d | cp_e | cp_h | cp_l | cp_atHL | cp_a
  | rlc_b | rlc_c | rlc_d | rlc_e | rlc_h | rlc_l | rlc_atHL | rlc_a
  | rrc_b | rrc_c | rrc_d | rrc_e | rrc_h | rrc_l | rrc_atHL | rrc_a
  | rl_b | rl_c | rl_d | rl_e | rl_h | rl_l | rl_atHL | rl_a
  | rr_b | rr_c | rr_d | rr_e | rr_h | rr_l | rr_atHL | rr_a
  | sla_b | sla_c | sla_d | sla_e | sla_h | sla_l | sla_atHL | sla_a
  | sra_b | sra_c | sra_d | sra_e | sra_h | sra_l | sra_atHL | sra_a
  | swap_b | swap_c | swap_d | swap_e | swap_h | swap_l | swap_atHL | swap_a
  | srl_b | srl_c | srl_d | srl_e | srl_h | srl_l | srl_atHL | srl_a
  | bit_0_b | bit_0_c | bit_0_d | bit_0_e | bit_0_h | bit_0_l | bit_0_atHL | bit_0_a
  | bit_1_b | bit_1_c | bit_1_d | bit_1_e | bit_1_h | bit_1_l | bit_1_atHL | bit_1_a
  | bit_2_b | bit_2_c | bit_2_d | bit_2_e | bit_2_h | bit_2_l | bit_2_atHL | bit_2_a
  | bit_3_b | bit_3_c | bit_3_d | bit_3_e | bit_3_h | bit_3_l | bit_3_atHL | bit_3_a
  | bit_4_b | bit_4_c | bit_4_d | bit_4_e | bit_4_h | bit_4_l | bit_4_atHL | bit_4_a
  | bit_5_b | bit_5_c | bit_5_d | bit_5_e | bit_5_h | bit_5_l | bit_5_atHL | bit_5_a
  | bit_6_b | bit_6_c | bit_6_d | bit_6_e | bit_6_h | bit_6_l | bit_6_atHL | bit_6_a
  | bit_7_b | bit_7_c | bit_7_d | bit_7_e | bit_7_h | bit_7_l | bit_7_atHL | bit_7_a
  | res_0_b | res_0_c | res_0_d | res_0_e | res_0_h | res_0_l | res_0_atHL | res_0_a
  | res_1_b | res_1_c | res_1_d | res_1_e | res_1_h | res_1_l | res_1_atHL | res_1_a
  | res_2_b | res_2_c | res_2_d | res_2_e | res_2_h | res_2_l | res_2_atHL | res_2_a
  | res_3_b | res_3_c | res_3_d | res_3_e | res_3_h | res_3_l | res_3_atHL | res_3_a
  | res_4_b | res_4_c | res_4_d | res_4_e | res_4_h | res_4_l | res_4_atHL | res_4_a
  | res_5_b | res_5_c | res_5_d | res_5_e | res_5_h | res_5_l | res_5_atHL | res_5_a
  | res_6_b | res_6_c | res_6_d | res_6_e | res_6_h | res_6_l | res_6_atHL | res_6_a
  | res_7_b | res_7_c | res_7_d | res_7_e | res_7_h | res_7_l | res_7_atHL | res_7_a
  | set_0_b | set_0_c | set_0_d | set_0_e | set_0_h | set_0_l | set_0_atHL | set_0_a
  | set_1_b | set_1_c | set_1_d | set_1_e | set_1_h | set_1_l | set_1_atHL | set_1_a
  | set_2_b | set_2_c | set_2_d | set_2_e | set_2_h | set_2_l | set_2_atHL | set_2_a
  | set_3_b | set_3_c | set_3_d | set_3_e | set_3_h | set_3_l | set_3_atHL | set_3_a
  | set_4_b | set_4_c | set_4_d | set_4_e | set_4_h | set_4_l | set_4_atHL | set_4_a
  | set_5_b | set_5_c | set_5_d | set_5_e | set_5_h | set_5_l | set_5_atHL | set_5_a
  | set_6_b | set_6_c | set_6_d | set_6_e | set_6_h | set_6_l | set_6_atHL | set_6_a
  | set_7_b | set_7_c | set_7_d | set_7_e | set_7_h | set_7_l | set_7_atHL | set_7_a
  deriving DecidableEq, Repr

end Sys2Proof
end

