-- ==== Sys2Proof/Machine/Operands.lean ====
section
/-! DEFINITION. Register operands: the 8-bit registers, the 16-bit views, F as a byte, the conditions (10_state.md R20
to R25; 30_encoding.md R124 to R126). -/

namespace Sys2Proof.Machine

open Sys2Proof

/-- `r[X]` (00_scope.md R10). -/
def Cpu.reg (c : Cpu) (r : Reg) : Byte :=
  match r with
  | .b => c.b
  | .c => c.c
  | .d => c.d
  | .e => c.e
  | .h => c.h
  | .l => c.l
  | .a => c.a

/-- `r[X] <- v` (00_scope.md R10). -/
def Cpu.setReg (c : Cpu) (r : Reg) (v : Byte) : Cpu :=
  match r with
  | .b => { c with b := v }
  | .c => { c with c := v }
  | .d => { c with d := v }
  | .e => { c with e := v }
  | .h => { c with h := v }
  | .l => { c with l := v }
  | .a => { c with a := v }

/-- The view `HL` (R21). -/
def Cpu.hl (c : Cpu) : Word := joinBytes c.l c.h

/-- Write of the view `HL` (R21). -/
def Cpu.setHl (c : Cpu) (v : Word) : Cpu := { c with h := hiByte v, l := loByte v }

/-- `rr[P]` for table `rp` (R21, R125). -/
def Cpu.pair (c : Cpu) (p : Pair) : Word :=
  match p with
  | .bc => joinBytes c.c c.b
  | .de => joinBytes c.e c.d
  | .hl => c.hl
  | .sp => c.sp

/-- `rr[P] <- v` for table `rp` (R21, R125). -/
def Cpu.setPair (c : Cpu) (p : Pair) (v : Word) : Cpu :=
  match p with
  | .bc => { c with b := hiByte v, c := loByte v }
  | .de => { c with d := hiByte v, e := loByte v }
  | .hl => c.setHl v
  | .sp => { c with sp := v }

/-- F as a byte: Z, N, H, C in bits 7 to 4, bits 3:0 zero (R24). -/
def Flags.toByte (f : Flags) : Byte :=
  BitVec.ofBool f.z ++ BitVec.ofBool f.n ++ BitVec.ofBool f.h ++ BitVec.ofBool f.c ++ 0#4

/-- A write to F stores `v & 0xF0` (R24). -/
def Flags.ofByte (v : Byte) : Flags := ⟨v.getLsbD 7, v.getLsbD 6, v.getLsbD 5, v.getLsbD 4⟩

/-- The pair named by table `rp2` (R125). -/
def Cpu.stackPair (c : Cpu) (p : StackPair) : Word :=
  match p with
  | .bc => c.pair .bc
  | .de => c.pair .de
  | .hl => c.pair .hl
  | .af => joinBytes c.f.toByte c.a

/-- A write of the pair named by table `rp2`; the low nibble of a byte written to F is dropped (R24, R186). -/
def Cpu.setStackPair (c : Cpu) (p : StackPair) (v : Word) : Cpu :=
  match p with
  | .bc => c.setPair .bc v
  | .de => c.setPair .de v
  | .hl => c.setPair .hl v
  | .af => { c with a := hiByte v, f := Flags.ofByte (loByte v) }

/-- `cond(cc)` (R126, 45_control_flow.md R300). -/
def Flags.holds (f : Flags) (cc : Cond) : Bool :=
  match cc with
  | .nz => !f.z
  | .z => f.z
  | .nc => !f.c
  | .c => f.c

/-- `r[X]` of the machine. -/
def State.reg (s : State) (r : Reg) : Byte := s.cpu.reg r

/-- `r[X] <- v` on the machine. -/
def State.setReg (s : State) (r : Reg) (v : Byte) : State := { s with cpu := s.cpu.setReg r v }

/-- `rr[P]` of the machine. -/
def State.pair (s : State) (p : Pair) : Word := s.cpu.pair p

/-- `rr[P] <- v` on the machine. -/
def State.setPair (s : State) (p : Pair) (v : Word) : State := { s with cpu := s.cpu.setPair p v }

/-- `rr[HL]` of the machine. -/
def State.hl (s : State) : Word := s.cpu.hl

/-- The flags of the machine. -/
def State.setFlags (s : State) (f : Flags) : State := { s with cpu.f := f }

/-- `pc <- v`. -/
def State.setPc (s : State) (v : Word) : State := { s with cpu.pc := v }

/-- `SP <- v`. -/
def State.setSp (s : State) (v : Word) : State := { s with cpu.sp := v }

end Sys2Proof.Machine
end

