-- ==== Sys2Proof/Machine/Flags.lean ====
section
/-! DEFINITION. The arithmetic of the instructions: results and flags, computed on unbounded integers and then narrowed
(42_alu8.md R200 to R233, 43_alu16.md R250 to R253, 44_rotate_shift_bit.md R260, R281). -/

namespace Sys2Proof.Machine

open Sys2Proof

/-- `v[3:0]` as a number. -/
def lowNibble (v : Byte) : Nat := v.toNat % 16

/-- ADD and ADC: the sum of `a`, `v` and the carry `c`, with its flags (R200). -/
def addFlags (a v : Byte) (c : Bool) : Byte × Flags :=
  let sum := a.toNat + v.toNat + c.toNat
  let res := BitVec.ofNat 8 sum
  (res, { z := decide (res = 0#8), n := false, h := decide (15 < lowNibble a + lowNibble v + c.toNat), c := decide (255 < sum) })

/-- SUB, SBC and CP: the difference of `a` and `v + c`, with its flags (R200). -/
def subFlags (a v : Byte) (c : Bool) : Byte × Flags :=
  let diff : Int := (a.toNat : Int) - v.toNat - c.toNat
  let res := BitVec.ofInt 8 diff
  (res, { z := decide (res = 0#8), n := true, h := decide (lowNibble a < lowNibble v + c.toNat), c := decide (a.toNat < v.toNat + c.toNat) })

/-- The flags of AND (`h = true`), XOR and OR (R200). -/
def logicFlags (res : Byte) (h : Bool) : Byte × Flags := (res, { z := decide (res = 0#8), n := false, h := h, c := false })

/-- The eight ALU functions on A, the operand and the incoming carry; CP's result is the one it discards (R200). -/
def aluResult (o : Alu) (a v : Byte) (c : Bool) : Byte × Flags :=
  match o with
  | .add => addFlags a v false
  | .adc => addFlags a v c
  | .sub => subFlags a v false
  | .sbc => subFlags a v c
  | .and => logicFlags (a &&& v) true
  | .xor => logicFlags (a ^^^ v) false
  | .or => logicFlags (a ||| v) false
  | .cp => subFlags a v false

/-- The operation writes A: every one but CP (R200). -/
def aluWritesA : Alu → Bool
  | .add => true
  | .adc => true
  | .sub => true
  | .sbc => true
  | .and => true
  | .xor => true
  | .or => true
  | .cp => false

/-- INC of a byte: Z, N = 0, H, C unchanged (R225). -/
def incFlags (v : Byte) (f : Flags) : Byte × Flags :=
  (v + 1, { z := decide (v + 1 = 0#8), n := false, h := decide (lowNibble v = 0xF), c := f.c })

/-- DEC of a byte: Z, N = 1, H, C unchanged (R227). -/
def decFlags (v : Byte) (f : Flags) : Byte × Flags :=
  (v - 1, { z := decide (v - 1 = 0#8), n := true, h := decide (lowNibble v = 0x0), c := f.c })

/-- The adjustment DAA applies for the low digit: `H`, or after an addition a low digit above 9 (R229). -/
def daaLow (a : Byte) (f : Flags) : Bool := f.h || (!f.n && decide (9 < lowNibble a))

/-- The adjustment DAA applies for the high digit: `C`, or after an addition A above 0x99 (R229). -/
def daaHigh (a : Byte) (f : Flags) : Bool := f.c || (!f.n && decide (0x99 < a.toNat))

/-- `adj` of DAA (R229). -/
def daaAdjust (a : Byte) (f : Flags) : Byte :=
  (if daaLow a f then 0x06#8 else 0#8) + (if daaHigh a f then 0x60#8 else 0#8)

/-- DAA: A adjusted after an addition or a subtraction; Z from the result, N unchanged, H = 0 (R229). -/
def daaResult (a : Byte) (f : Flags) : Byte × Flags :=
  let res := if f.n then a - daaAdjust a f else a + daaAdjust a f
  (res, { z := decide (res = 0#8), n := f.n, h := false, c := daaHigh a f })

/-- The result and outgoing carry of the eight rotate and shift functions (R260). -/
def rotResult (o : Rot) (v : Byte) (c : Bool) : Byte × Bool :=
  match o with
  | .rlc => (v.extractLsb' 0 7 ++ v.extractLsb' 7 1, v.getLsbD 7)
  | .rrc => (v.extractLsb' 0 1 ++ v.extractLsb' 1 7, v.getLsbD 0)
  | .rl => (v.extractLsb' 0 7 ++ BitVec.ofBool c, v.getLsbD 7)
  | .rr => (BitVec.ofBool c ++ v.extractLsb' 1 7, v.getLsbD 0)
  | .sla => (v.extractLsb' 0 7 ++ 0#1, v.getLsbD 7)
  | .sra => (v.extractLsb' 7 1 ++ v.extractLsb' 1 7, v.getLsbD 0)
  | .swap => (v.extractLsb' 0 4 ++ v.extractLsb' 4 4, false)
  | .srl => (0#1 ++ v.extractLsb' 1 7, v.getLsbD 0)

/-- The flags of the CB-prefixed rotates and shifts (R260). -/
def rotFlags (o : Rot) (v : Byte) (c : Bool) : Byte × Flags :=
  let r := rotResult o v c
  (r.1, { z := decide (r.1 = 0#8), n := false, h := false, c := r.2 })

/-- The flags of the one-byte accumulator rotates: Z = 0 whatever the result (R260, R261). -/
def rotAFlags (o : Rot) (v : Byte) (c : Bool) : Byte × Flags :=
  let r := rotResult o v c
  (r.1, { z := false, n := false, h := false, c := r.2 })

/-- The flags of BIT: Z is the complement of the tested bit, C unchanged (R281). -/
def bitFlags (b : Fin 8) (v : Byte) (f : Flags) : Flags := { z := !v.getLsbD b.val, n := false, h := true, c := f.c }

/-- `v & ~(1 << b)` (R283). -/
def resetBit (b : Fin 8) (v : Byte) : Byte := v &&& ~~~(1#8 <<< b.val)

/-- `v | (1 << b)` (R285). -/
def setBit (b : Fin 8) (v : Byte) : Byte := v ||| (1#8 <<< b.val)

/-- `ADD HL,rr`: Z unchanged, H and C the carries out of bits 11 and 15 (R250). -/
def addHlFlags (h v : Word) (f : Flags) : Word × Flags :=
  let sum := h.toNat + v.toNat
  (BitVec.ofNat 16 sum,
    { z := f.z, n := false, h := decide (0xFFF < h.toNat % 4096 + v.toNat % 4096), c := decide (0xFFFF < sum) })

/-- The sum and flags of `ADD SP,e8` and `LD HL,SP+e8`: the carries are those of the unsigned addition of SP's low byte
and the raw byte (R183, R253). -/
def addSpFlags (sp : Word) (b : Byte) : Word × Flags :=
  (sp + signExtend b,
    { z := false, n := false, h := decide (0xF < sp.toNat % 16 + lowNibble b), c := decide (0xFF < sp.toNat % 256 + b.toNat) })

end Sys2Proof.Machine
end

