-- ==== Sys2Proof/Machine/Ops.lean ====
section
/-! DEFINITION. The shared operations of the instruction rules: memory accesses, immediates, the stack, the conditional
transfer of control, taking an exception and returning from one (00_scope.md R11; 60_exceptions.md R351, R360). -/

namespace Sys2Proof.Machine

open Sys2Proof

/-! ## Memory primitives (R11) -/

/-- `MemRead(a, 1)`: `Advance(4)`, then the CPU's read: the byte and the machine after it. -/
def State.memRead (s : State) (a : Word) : Byte × State := ((s.advance 4).cpuRead a, s.advance 4)

/-- `MemWrite(a, 1, v)`: `Advance(4)`, then the CPU's write. -/
def State.memWrite (s : State) (a : Word) (v : Byte) : State := (s.advance 4).cpuWrite a v

/-- `Imm8()`. -/
def State.imm8 (s : State) : Byte × State := ((s.memRead s.cpu.pc).1, (s.memRead s.cpu.pc).2.setPc (s.cpu.pc + 1))

/-- `Imm16()`: low byte first. -/
def State.imm16 (s : State) : Word × State := (joinBytes s.imm8.1 s.imm8.2.imm8.1, s.imm8.2.imm8.2)

/-- One byte of `Push16`: SP down by one, then the byte written at the new SP. -/
def State.pushByte (s : State) (v : Byte) : State := (s.setSp (s.cpu.sp - 1)).memWrite (s.cpu.sp - 1) v

/-- `Push16(v)`: the high byte, then the low byte. -/
def State.push16 (s : State) (v : Word) : State := (s.pushByte (hiByte v)).pushByte (loByte v)

/-- One byte of `Pop16`: the byte read at SP, then SP up by one. -/
def State.popByte (s : State) : Byte × State := ((s.memRead s.cpu.sp).1, (s.memRead s.cpu.sp).2.setSp (s.cpu.sp + 1))

/-- `Pop16()`: the low byte, then the high byte. -/
def State.pop16 (s : State) : Word × State := (joinBytes s.popByte.1 s.popByte.2.popByte.1, s.popByte.2.popByte.2)

/-! ## Shapes of operation that several rules share -/

/-- A byte read at `HL`, combined with the flags into a byte written back there and new flags: the read-modify-write of
20_memory.md R106.  The two accesses are 4 T-cycles apart. -/
def State.modifyAtHl (s : State) (f : Byte → Flags → Byte × Flags) : State :=
  let r := s.memRead s.hl
  (r.2.setFlags (f r.1 s.cpu.f).2).memWrite s.hl (f r.1 s.cpu.f).1

/-- An ALU operation on A and `v` (42_alu8.md R200): the flags always, A unless the operation is CP. -/
def State.alu (s : State) (o : Alu) (v : Byte) : State :=
  let r := aluResult o s.cpu.a v s.cpu.f.c
  { s with cpu.a := if aluWritesA o then r.1 else s.cpu.a, cpu.f := r.2 }

/-- A transfer to `a` that owes `k` internal T-cycles (45_control_flow.md). -/
def State.jump (s : State) (a : Word) (k : Nat) : State := (s.setPc a).advance k

/-- A call of `a`: the return address is pushed, 4 internal T-cycles are paid at the end (45_control_flow.md R306,
R311). -/
def State.call (s : State) (a : Word) : State := (s.push16 s.cpu.pc).jump a 4

/-- A return that owes `k` internal T-cycles (45_control_flow.md R308, R309). -/
def State.ret (s : State) (k : Nat) : State := s.pop16.2.jump s.pop16.1 k

/-! ## Taking an exception, and the return -/

/-- The register snapshot of a fault record, with `pc` at the offending opcode byte (60_exceptions.md R360). -/
def State.snapshot (s : State) : Snapshot where
  a   := s.cpu.a
  f   := s.cpu.f.toByte
  b   := s.cpu.b
  c   := s.cpu.c
  d   := s.cpu.d
  e   := s.cpu.e
  h   := s.cpu.h
  l   := s.cpu.l
  sp  := s.cpu.sp
  pc  := s.cpu.curAddr
  ime := s.cpu.ime

/-- `raise IllegalOpcode(addr, op)`: the record is filled, `pc` goes back to the opcode byte and the CPU is locked
(60_exceptions.md R360). -/
def State.raiseIllegal (s : State) (op : Byte) : State :=
  { s with cpu.record := some ⟨.illegalOpcode, s.cpu.curAddr, op, s.snapshot⟩, cpu.pc := s.cpu.curAddr, cpu.locked := true }

/-- The refusal of STOP: the mark `refused` with a record of the same shape, the cause and the snapshot included
(46_cpu_control.md R322, 10_state.md R31; log entry 7). -/
def State.refuseStop (s : State) : State :=
  { s with cpu.record := some ⟨.stopRefused, s.cpu.curAddr, 0x10, s.snapshot⟩, cpu.refused := true }

/-- `Service(pending)` for the chosen source: IME and the source's IF bit are cleared, and the HALT-bug latch; `pc` is
pushed, the vector taken, and 12 more T-cycles pass (60_exceptions.md R351). -/
def State.service (s : State) (i : Source) : State :=
  let u : State := { s with cpu.ime := false, cpu.haltBug := false, irq := s.irq.acknowledge i }
  ((u.push16 s.cpu.pc).setPc i.vector).advance 12

/-- Return from an interrupt handler: `pc` popped, IME set at once, nothing else restored (45_control_flow.md R310). -/
def State.returnFromInterrupt (s : State) : State :=
  let r := s.pop16
  State.advance 4 { r.2 with cpu.pc := r.1, cpu.ime := true }

end Sys2Proof.Machine
end

