-- ==== Sys2Proof/Machine/Alu16.lean ====
section
/-! DEFINITION. The 16-bit arithmetic instructions (43_alu16.md R250 to R253). -/

namespace Sys2Proof.Machine

open Sys2Proof

/-- `ADD HL,rr` (R250). -/
def State.addHl (s : State) (p : Pair) : State :=
  ((s.setPair .hl (addHlFlags s.hl (s.pair p) s.cpu.f).1).setFlags (addHlFlags s.hl (s.pair p) s.cpu.f).2).advance 4

/-- `INC rr` (R251). -/
def State.incPair (s : State) (p : Pair) : State := (s.setPair p (s.pair p + 1)).advance 4

/-- `DEC rr` (R252). -/
def State.decPair (s : State) (p : Pair) : State := (s.setPair p (s.pair p - 1)).advance 4

/-- `ADD HL,BC` (R250). -/
def exec_add_hl_bc (s : State) : Result := .next (s.addHl .bc)

/-- `ADD HL,DE` (R250). -/
def exec_add_hl_de (s : State) : Result := .next (s.addHl .de)

/-- `ADD HL,HL` (R250). -/
def exec_add_hl_hl (s : State) : Result := .next (s.addHl .hl)

/-- `ADD HL,SP` (R250). -/
def exec_add_hl_sp (s : State) : Result := .next (s.addHl .sp)

/-- `INC BC` (R251). -/
def exec_inc_bc (s : State) : Result := .next (s.incPair .bc)

/-- `INC DE` (R251). -/
def exec_inc_de (s : State) : Result := .next (s.incPair .de)

/-- `INC HL` (R251). -/
def exec_inc_hl (s : State) : Result := .next (s.incPair .hl)

/-- `INC SP` (R251). -/
def exec_inc_sp (s : State) : Result := .next (s.incPair .sp)

/-- `DEC BC` (R252). -/
def exec_dec_bc (s : State) : Result := .next (s.decPair .bc)

/-- `DEC DE` (R252). -/
def exec_dec_de (s : State) : Result := .next (s.decPair .de)

/-- `DEC HL` (R252). -/
def exec_dec_hl (s : State) : Result := .next (s.decPair .hl)

/-- `DEC SP` (R252). -/
def exec_dec_sp (s : State) : Result := .next (s.decPair .sp)

/-- `ADD SP,e8` (R253). -/
def exec_add_sp_e8 (e : Byte) (s : State) : Result :=
  .next (((s.setSp (addSpFlags s.cpu.sp e).1).setFlags (addSpFlags s.cpu.sp e).2).advance 8)

end Sys2Proof.Machine
end

