-- ==== Sys2Proof/Machine/Alu8.lean ====
section
/-! DEFINITION. The 8-bit arithmetic and logic instructions (42_alu8.md R200 to R233). -/

namespace Sys2Proof.Machine

open Sys2Proof

/-- An ALU operation whose operand is the byte at HL (R202). -/
def State.aluMem (s : State) (o : Alu) : State := (s.memRead s.hl).2.alu o (s.memRead s.hl).1

/-- INC of a register (R225). -/
def State.incReg (s : State) (r : Reg) : State :=
  (s.setReg r (incFlags (s.reg r) s.cpu.f).1).setFlags (incFlags (s.reg r) s.cpu.f).2

/-- DEC of a register (R227). -/
def State.decReg (s : State) (r : Reg) : State :=
  (s.setReg r (decFlags (s.reg r) s.cpu.f).1).setFlags (decFlags (s.reg r) s.cpu.f).2

/-- `ADD A,B` (R201). -/
def exec_add_a_b (s : State) : Result := .next (s.alu .add (s.reg .b))

/-- `ADD A,C` (R201). -/
def exec_add_a_c (s : State) : Result := .next (s.alu .add (s.reg .c))

/-- `ADD A,D` (R201). -/
def exec_add_a_d (s : State) : Result := .next (s.alu .add (s.reg .d))

/-- `ADD A,E` (R201). -/
def exec_add_a_e (s : State) : Result := .next (s.alu .add (s.reg .e))

/-- `ADD A,H` (R201). -/
def exec_add_a_h (s : State) : Result := .next (s.alu .add (s.reg .h))

/-- `ADD A,L` (R201). -/
def exec_add_a_l (s : State) : Result := .next (s.alu .add (s.reg .l))

/-- `ADD A,A` (R201). -/
def exec_add_a_a (s : State) : Result := .next (s.alu .add (s.reg .a))

/-- `ADD A,(HL)` (R202). -/
def exec_add_a_atHL (s : State) : Result := .next (s.aluMem .add)

/-- `ADD A,d8` (R203). -/
def exec_add_a_d8 (v : Byte) (s : State) : Result := .next (s.alu .add v)

/-- `ADC A,B` (R204). -/
def exec_adc_a_b (s : State) : Result := .next (s.alu .adc (s.reg .b))

/-- `ADC A,C` (R204). -/
def exec_adc_a_c (s : State) : Result := .next (s.alu .adc (s.reg .c))

/-- `ADC A,D` (R204). -/
def exec_adc_a_d (s : State) : Result := .next (s.alu .adc (s.reg .d))

/-- `ADC A,E` (R204). -/
def exec_adc_a_e (s : State) : Result := .next (s.alu .adc (s.reg .e))

/-- `ADC A,H` (R204). -/
def exec_adc_a_h (s : State) : Result := .next (s.alu .adc (s.reg .h))

/-- `ADC A,L` (R204). -/
def exec_adc_a_l (s : State) : Result := .next (s.alu .adc (s.reg .l))

/-- `ADC A,A` (R204). -/
def exec_adc_a_a (s : State) : Result := .next (s.alu .adc (s.reg .a))

/-- `ADC A,(HL)` (R205). -/
def exec_adc_a_atHL (s : State) : Result := .next (s.aluMem .adc)

/-- `ADC A,d8` (R206). -/
def exec_adc_a_d8 (v : Byte) (s : State) : Result := .next (s.alu .adc v)

/-- `SUB B` (R207). -/
def exec_sub_b (s : State) : Result := .next (s.alu .sub (s.reg .b))

/-- `SUB C` (R207). -/
def exec_sub_c (s : State) : Result := .next (s.alu .sub (s.reg .c))

/-- `SUB D` (R207). -/
def exec_sub_d (s : State) : Result := .next (s.alu .sub (s.reg .d))

/-- `SUB E` (R207). -/
def exec_sub_e (s : State) : Result := .next (s.alu .sub (s.reg .e))

/-- `SUB H` (R207). -/
def exec_sub_h (s : State) : Result := .next (s.alu .sub (s.reg .h))

/-- `SUB L` (R207). -/
def exec_sub_l (s : State) : Result := .next (s.alu .sub (s.reg .l))

/-- `SUB A` (R207). -/
def exec_sub_a (s : State) : Result := .next (s.alu .sub (s.reg .a))

/-- `SUB (HL)` (R208). -/
def exec_sub_atHL (s : State) : Result := .next (s.aluMem .sub)

/-- `SUB d8` (R209). -/
def exec_sub_d8 (v : Byte) (s : State) : Result := .next (s.alu .sub v)

/-- `SBC A,B` (R210). -/
def exec_sbc_a_b (s : State) : Result := .next (s.alu .sbc (s.reg .b))

/-- `SBC A,C` (R210). -/
def exec_sbc_a_c (s : State) : Result := .next (s.alu .sbc (s.reg .c))

/-- `SBC A,D` (R210). -/
def exec_sbc_a_d (s : State) : Result := .next (s.alu .sbc (s.reg .d))

/-- `SBC A,E` (R210). -/
def exec_sbc_a_e (s : State) : Result := .next (s.alu .sbc (s.reg .e))

/-- `SBC A,H` (R210). -/
def exec_sbc_a_h (s : State) : Result := .next (s.alu .sbc (s.reg .h))

/-- `SBC A,L` (R210). -/
def exec_sbc_a_l (s : State) : Result := .next (s.alu .sbc (s.reg .l))

/-- `SBC A,A` (R210). -/
def exec_sbc_a_a (s : State) : Result := .next (s.alu .sbc (s.reg .a))

/-- `SBC A,(HL)` (R211). -/
def exec_sbc_a_atHL (s : State) : Result := .next (s.aluMem .sbc)

/-- `SBC A,d8` (R212). -/
def exec_sbc_a_d8 (v : Byte) (s : State) : Result := .next (s.alu .sbc v)

/-- `AND B` (R213). -/
def exec_and_b (s : State) : Result := .next (s.alu .and (s.reg .b))

/-- `AND C` (R213). -/
def exec_and_c (s : State) : Result := .next (s.alu .and (s.reg .c))

/-- `AND D` (R213). -/
def exec_and_d (s : State) : Result := .next (s.alu .and (s.reg .d))

/-- `AND E` (R213). -/
def exec_and_e (s : State) : Result := .next (s.alu .and (s.reg .e))

/-- `AND H` (R213). -/
def exec_and_h (s : State) : Result := .next (s.alu .and (s.reg .h))

/-- `AND L` (R213). -/
def exec_and_l (s : State) : Result := .next (s.alu .and (s.reg .l))

/-- `AND A` (R213). -/
def exec_and_a (s : State) : Result := .next (s.alu .and (s.reg .a))

/-- `AND (HL)` (R214). -/
def exec_and_atHL (s : State) : Result := .next (s.aluMem .and)

/-- `AND d8` (R215). -/
def exec_and_d8 (v : Byte) (s : State) : Result := .next (s.alu .and v)

/-- `XOR B` (R216). -/
def exec_xor_b (s : State) : Result := .next (s.alu .xor (s.reg .b))

/-- `XOR C` (R216). -/
def exec_xor_c (s : State) : Result := .next (s.alu .xor (s.reg .c))

/-- `XOR D` (R216). -/
def exec_xor_d (s : State) : Result := .next (s.alu .xor (s.reg .d))

/-- `XOR E` (R216). -/
def exec_xor_e (s : State) : Result := .next (s.alu .xor (s.reg .e))

/-- `XOR H` (R216). -/
def exec_xor_h (s : State) : Result := .next (s.alu .xor (s.reg .h))

/-- `XOR L` (R216). -/
def exec_xor_l (s : State) : Result := .next (s.alu .xor (s.reg .l))

/-- `XOR A` (R216). -/
def exec_xor_a (s : State) : Result := .next (s.alu .xor (s.reg .a))

/-- `XOR (HL)` (R217). -/
def exec_xor_atHL (s : State) : Result := .next (s.aluMem .xor)

/-- `XOR d8` (R218). -/
def exec_xor_d8 (v : Byte) (s : State) : Result := .next (s.alu .xor v)

/-- `OR B` (R219). -/
def exec_or_b (s : State) : Result := .next (s.alu .or (s.reg .b))

/-- `OR C` (R219). -/
def exec_or_c (s : State) : Result := .next (s.alu .or (s.reg .c))

/-- `OR D` (R219). -/
def exec_or_d (s : State) : Result := .next (s.alu .or (s.reg .d))

/-- `OR E` (R219). -/
def exec_or_e (s : State) : Result := .next (s.alu .or (s.reg .e))

/-- `OR H` (R219). -/
def exec_or_h (s : State) : Result := .next (s.alu .or (s.reg .h))

/-- `OR L` (R219). -/
def exec_or_l (s : State) : Result := .next (s.alu .or (s.reg .l))

/-- `OR A` (R219). -/
def exec_or_a (s : State) : Result := .next (s.alu .or (s.reg .a))

/-- `OR (HL)` (R220). -/
def exec_or_atHL (s : State) : Result := .next (s.aluMem .or)

/-- `OR d8` (R221). -/
def exec_or_d8 (v : Byte) (s : State) : Result := .next (s.alu .or v)

/-- `CP B` (R222). -/
def exec_cp_b (s : State) : Result := .next (s.alu .cp (s.reg .b))

/-- `CP C` (R222). -/
def exec_cp_c (s : State) : Result := .next (s.alu .cp (s.reg .c))

/-- `CP D` (R222). -/
def exec_cp_d (s : State) : Result := .next (s.alu .cp (s.reg .d))

/-- `CP E` (R222). -/
def exec_cp_e (s : State) : Result := .next (s.alu .cp (s.reg .e))

/-- `CP H` (R222). -/
def exec_cp_h (s : State) : Result := .next (s.alu .cp (s.reg .h))

/-- `CP L` (R222). -/
def exec_cp_l (s : State) : Result := .next (s.alu .cp (s.reg .l))

/-- `CP A` (R222). -/
def exec_cp_a (s : State) : Result := .next (s.alu .cp (s.reg .a))

/-- `CP (HL)` (R223). -/
def exec_cp_atHL (s : State) : Result := .next (s.aluMem .cp)

/-- `CP d8` (R224). -/
def exec_cp_d8 (v : Byte) (s : State) : Result := .next (s.alu .cp v)

/-- `INC B` (R225). -/
def exec_inc_b (s : State) : Result := .next (s.incReg .b)

/-- `INC C` (R225). -/
def exec_inc_c (s : State) : Result := .next (s.incReg .c)

/-- `INC D` (R225). -/
def exec_inc_d (s : State) : Result := .next (s.incReg .d)

/-- `INC E` (R225). -/
def exec_inc_e (s : State) : Result := .next (s.incReg .e)

/-- `INC H` (R225). -/
def exec_inc_h (s : State) : Result := .next (s.incReg .h)

/-- `INC L` (R225). -/
def exec_inc_l (s : State) : Result := .next (s.incReg .l)

/-- `INC A` (R225). -/
def exec_inc_a (s : State) : Result := .next (s.incReg .a)

/-- `INC (HL)` (R226). -/
def exec_inc_atHL (s : State) : Result := .next (s.modifyAtHl incFlags)

/-- `DEC B` (R227). -/
def exec_dec_b (s : State) : Result := .next (s.decReg .b)

/-- `DEC C` (R227). -/
def exec_dec_c (s : State) : Result := .next (s.decReg .c)

/-- `DEC D` (R227). -/
def exec_dec_d (s : State) : Result := .next (s.decReg .d)

/-- `DEC E` (R227). -/
def exec_dec_e (s : State) : Result := .next (s.decReg .e)

/-- `DEC H` (R227). -/
def exec_dec_h (s : State) : Result := .next (s.decReg .h)

/-- `DEC L` (R227). -/
def exec_dec_l (s : State) : Result := .next (s.decReg .l)

/-- `DEC A` (R227). -/
def exec_dec_a (s : State) : Result := .next (s.decReg .a)

/-- `DEC (HL)` (R228). -/
def exec_dec_atHL (s : State) : Result := .next (s.modifyAtHl decFlags)

/-- `DAA` (R229). -/
def exec_daa (s : State) : Result :=
  .next ((s.setReg .a (daaResult s.cpu.a s.cpu.f).1).setFlags (daaResult s.cpu.a s.cpu.f).2)

/-- `CPL` (R230). -/
def exec_cpl (s : State) : Result :=
  .next ((s.setReg .a (s.cpu.a ^^^ 0xFF)).setFlags { s.cpu.f with n := true, h := true })

/-- `SCF` (R231). -/
def exec_scf (s : State) : Result := .next (s.setFlags { s.cpu.f with n := false, h := false, c := true })

/-- `CCF` (R232). -/
def exec_ccf (s : State) : Result := .next (s.setFlags { s.cpu.f with n := false, h := false, c := !s.cpu.f.c })

end Sys2Proof.Machine
end

