-- ==== Sys2Proof/Machine/Control.lean ====
section
/-! DEFINITION. The control-transfer instructions (45_control_flow.md R300 to R312). -/

namespace Sys2Proof.Machine

open Sys2Proof

/-- `JP cc,a16` (R302). -/
def State.jpCond (s : State) (cc : Cond) (a : Word) : State := if s.cpu.f.holds cc then s.jump a 4 else s

/-- `JR e8`: the base is the address of the byte after the instruction (R304). -/
def State.jr (s : State) (e : Byte) : State := s.jump (s.cpu.pc + signExtend e) 4

/-- `JR cc,e8` (R305). -/
def State.jrCond (s : State) (cc : Cond) (e : Byte) : State := if s.cpu.f.holds cc then s.jr e else s

/-- `CALL cc,a16` (R307). -/
def State.callCond (s : State) (cc : Cond) (a : Word) : State := if s.cpu.f.holds cc then s.call a else s

/-- `RET cc` (R309). -/
def State.retCond (s : State) (cc : Cond) : State := if s.cpu.f.holds cc then s.ret 8 else s.advance 4

/-- `JP a16` (R301). -/
def exec_jp_a16 (a : Word) (s : State) : Result := .next (s.jump a 4)

/-- `JP NZ,a16` (R302). -/
def exec_jp_nz_a16 (a : Word) (s : State) : Result := .next (s.jpCond .nz a)

/-- `JP Z,a16` (R302). -/
def exec_jp_z_a16 (a : Word) (s : State) : Result := .next (s.jpCond .z a)

/-- `JP NC,a16` (R302). -/
def exec_jp_nc_a16 (a : Word) (s : State) : Result := .next (s.jpCond .nc a)

/-- `JP C,a16` (R302). -/
def exec_jp_c_a16 (a : Word) (s : State) : Result := .next (s.jpCond .c a)

/-- `JP HL` (R303).  No memory is read. -/
def exec_jp_hl (s : State) : Result := .next (s.setPc s.hl)

/-- `JR e8` (R304). -/
def exec_jr_e8 (e : Byte) (s : State) : Result := .next (s.jr e)

/-- `JR NZ,e8` (R305). -/
def exec_jr_nz_e8 (e : Byte) (s : State) : Result := .next (s.jrCond .nz e)

/-- `JR Z,e8` (R305). -/
def exec_jr_z_e8 (e : Byte) (s : State) : Result := .next (s.jrCond .z e)

/-- `JR NC,e8` (R305). -/
def exec_jr_nc_e8 (e : Byte) (s : State) : Result := .next (s.jrCond .nc e)

/-- `JR C,e8` (R305). -/
def exec_jr_c_e8 (e : Byte) (s : State) : Result := .next (s.jrCond .c e)

/-- `CALL a16` (R306). -/
def exec_call_a16 (a : Word) (s : State) : Result := .next (s.call a)

/-- `CALL NZ,a16` (R307). -/
def exec_call_nz_a16 (a : Word) (s : State) : Result := .next (s.callCond .nz a)

/-- `CALL Z,a16` (R307). -/
def exec_call_z_a16 (a : Word) (s : State) : Result := .next (s.callCond .z a)

/-- `CALL NC,a16` (R307). -/
def exec_call_nc_a16 (a : Word) (s : State) : Result := .next (s.callCond .nc a)

/-- `CALL C,a16` (R307). -/
def exec_call_c_a16 (a : Word) (s : State) : Result := .next (s.callCond .c a)

/-- `RET` (R308). -/
def exec_ret (s : State) : Result := .next (s.ret 4)

/-- `RET NZ` (R309). -/
def exec_ret_nz (s : State) : Result := .next (s.retCond .nz)

/-- `RET Z` (R309). -/
def exec_ret_z (s : State) : Result := .next (s.retCond .z)

/-- `RET NC` (R309). -/
def exec_ret_nc (s : State) : Result := .next (s.retCond .nc)

/-- `RET C` (R309). -/
def exec_ret_c (s : State) : Result := .next (s.retCond .c)

/-- `RETI` (R310). -/
def exec_reti (s : State) : Result := .next (s.returnFromInterrupt)

/-- `RST 0x00` (R311). -/
def exec_rst_00 (s : State) : Result := .next (s.call 0x0000)

/-- `RST 0x08` (R311). -/
def exec_rst_08 (s : State) : Result := .next (s.call 0x0008)

/-- `RST 0x10` (R311). -/
def exec_rst_10 (s : State) : Result := .next (s.call 0x0010)

/-- `RST 0x18` (R311). -/
def exec_rst_18 (s : State) : Result := .next (s.call 0x0018)

/-- `RST 0x20` (R311). -/
def exec_rst_20 (s : State) : Result := .next (s.call 0x0020)

/-- `RST 0x28` (R311). -/
def exec_rst_28 (s : State) : Result := .next (s.call 0x0028)

/-- `RST 0x30` (R311). -/
def exec_rst_30 (s : State) : Result := .next (s.call 0x0030)

/-- `RST 0x38` (R311). -/
def exec_rst_38 (s : State) : Result := .next (s.call 0x0038)

end Sys2Proof.Machine
end

