-- ==== Sys2Proof/WellFormed.lean ====
section
/-! DEFINITION. Which terms of `Instr` stand for words of their own. -/

namespace Sys2Proof

/-- Every instruction but the prefix row: `CB op2` is one instruction of two bytes, that of the CB row `op2`
(30_encoding.md R122, R131, R135; log entry 6).  Every other argument may take every value: `d8`, `a8`, `e8`, `d16` and
`a16` are unrestricted (R128), and so is the byte after STOP (R134). -/
def Instr.wf : Instr → Bool
  | .prefixCB _ => false
  | _ => true

end Sys2Proof
end

