-- ==== Sys2Proof/Decode.lean ====
section
/-! DEFINITION. Decoding and encoding (30_encoding.md R120 to R137): the families of rows of one shape, the total
decoder written from the fields of R123 to R131, and the encoder written from the rows of the opcode table. -/

namespace Sys2Proof

/-! ## The rows of one shape, by their operands -/

/-- `LD r,r'` (R150). -/
def ldRegReg (dst src : Reg) : Instr :=
  match dst, src with
  | .b, .b => .ld_b_b  | .b, .c => .ld_b_c  | .b, .d => .ld_b_d  | .b, .e => .ld_b_e  | .b, .h => .ld_b_h
  | .b, .l => .ld_b_l  | .b, .a => .ld_b_a  | .c, .b => .ld_c_b  | .c, .c => .ld_c_c  | .c, .d => .ld_c_d
  | .c, .e => .ld_c_e  | .c, .h => .ld_c_h  | .c, .l => .ld_c_l  | .c, .a => .ld_c_a  | .d, .b => .ld_d_b
  | .d, .c => .ld_d_c  | .d, .d => .ld_d_d  | .d, .e => .ld_d_e  | .d, .h => .ld_d_h  | .d, .l => .ld_d_l
  | .d, .a => .ld_d_a  | .e, .b => .ld_e_b  | .e, .c => .ld_e_c  | .e, .d => .ld_e_d  | .e, .e => .ld_e_e
  | .e, .h => .ld_e_h  | .e, .l => .ld_e_l  | .e, .a => .ld_e_a  | .h, .b => .ld_h_b  | .h, .c => .ld_h_c
  | .h, .d => .ld_h_d  | .h, .e => .ld_h_e  | .h, .h => .ld_h_h  | .h, .l => .ld_h_l  | .h, .a => .ld_h_a
  | .l, .b => .ld_l_b  | .l, .c => .ld_l_c  | .l, .d => .ld_l_d  | .l, .e => .ld_l_e  | .l, .h => .ld_l_h
  | .l, .l => .ld_l_l  | .l, .a => .ld_l_a  | .a, .b => .ld_a_b  | .a, .c => .ld_a_c  | .a, .d => .ld_a_d
  | .a, .e => .ld_a_e  | .a, .h => .ld_a_h  | .a, .l => .ld_a_l  | .a, .a => .ld_a_a

/-- `LD r,d8` (R151). -/
def ldRegImm (r : Reg) (v : Byte) : Instr :=
  match r with
  | .b => .ld_b_d8 v  | .c => .ld_c_d8 v  | .d => .ld_d_d8 v  | .e => .ld_e_d8 v  | .h => .ld_h_d8 v
  | .l => .ld_l_d8 v  | .a => .ld_a_d8 v

/-- `LD r,(HL)` (R152). -/
def ldRegMem (r : Reg) : Instr :=
  match r with
  | .b => .ld_b_atHL  | .c => .ld_c_atHL  | .d => .ld_d_atHL  | .e => .ld_e_atHL  | .h => .ld_h_atHL
  | .l => .ld_l_atHL  | .a => .ld_a_atHL

/-- `LD (HL),r` (R153). -/
def ldMemReg (r : Reg) : Instr :=
  match r with
  | .b => .ld_atHL_b  | .c => .ld_atHL_c  | .d => .ld_atHL_d  | .e => .ld_atHL_e  | .h => .ld_atHL_h
  | .l => .ld_atHL_l  | .a => .ld_atHL_a

/-- `LD rr,d16` (R180). -/
def ldPairImm (p : Pair) (v : Word) : Instr :=
  match p with
  | .bc => .ld_bc_d16 v  | .de => .ld_de_d16 v  | .hl => .ld_hl_d16 v  | .sp => .ld_sp_d16 v

/-- `ADD HL,rr` (R250). -/
def addHlPair (p : Pair) : Instr :=
  match p with
  | .bc => .add_hl_bc  | .de => .add_hl_de  | .hl => .add_hl_hl  | .sp => .add_hl_sp

/-- `INC rr` (R251). -/
def incPair (p : Pair) : Instr :=
  match p with
  | .bc => .inc_bc  | .de => .inc_de  | .hl => .inc_hl  | .sp => .inc_sp

/-- `DEC rr` (R252). -/
def decPair (p : Pair) : Instr :=
  match p with
  | .bc => .dec_bc  | .de => .dec_de  | .hl => .dec_hl  | .sp => .dec_sp

/-- `PUSH rr` (R184, R185). -/
def pushPair (p : StackPair) : Instr :=
  match p with
  | .bc => .push_bc  | .de => .push_de  | .hl => .push_hl  | .af => .push_af

/-- `POP rr` (R186, R187). -/
def popPair (p : StackPair) : Instr :=
  match p with
  | .bc => .pop_bc  | .de => .pop_de  | .hl => .pop_hl  | .af => .pop_af

/-- `INC r` (R225). -/
def incReg (r : Reg) : Instr :=
  match r with
  | .b => .inc_b  | .c => .inc_c  | .d => .inc_d  | .e => .inc_e  | .h => .inc_h  | .l => .inc_l  | .a => .inc_a

/-- `DEC r` (R227). -/
def decReg (r : Reg) : Instr :=
  match r with
  | .b => .dec_b  | .c => .dec_c  | .d => .dec_d  | .e => .dec_e  | .h => .dec_h  | .l => .dec_l  | .a => .dec_a

/-- `alu A,r` (R201 to R222). -/
def aluReg (o : Alu) (r : Reg) : Instr :=
  match o, r with
  | .add, .b => .add_a_b  | .add, .c => .add_a_c  | .add, .d => .add_a_d  | .add, .e => .add_a_e
  | .add, .h => .add_a_h  | .add, .l => .add_a_l  | .add, .a => .add_a_a  | .adc, .b => .adc_a_b
  | .adc, .c => .adc_a_c  | .adc, .d => .adc_a_d  | .adc, .e => .adc_a_e  | .adc, .h => .adc_a_h
  | .adc, .l => .adc_a_l  | .adc, .a => .adc_a_a  | .sub, .b => .sub_b  | .sub, .c => .sub_c  | .sub, .d => .sub_d
  | .sub, .e => .sub_e  | .sub, .h => .sub_h  | .sub, .l => .sub_l  | .sub, .a => .sub_a  | .sbc, .b => .sbc_a_b
  | .sbc, .c => .sbc_a_c  | .sbc, .d => .sbc_a_d  | .sbc, .e => .sbc_a_e  | .sbc, .h => .sbc_a_h
  | .sbc, .l => .sbc_a_l  | .sbc, .a => .sbc_a_a  | .and, .b => .and_b  | .and, .c => .and_c  | .and, .d => .and_d
  | .and, .e => .and_e  | .and, .h => .and_h  | .and, .l => .and_l  | .and, .a => .and_a  | .xor, .b => .xor_b
  | .xor, .c => .xor_c  | .xor, .d => .xor_d  | .xor, .e => .xor_e  | .xor, .h => .xor_h  | .xor, .l => .xor_l
  | .xor, .a => .xor_a  | .or, .b => .or_b  | .or, .c => .or_c  | .or, .d => .or_d  | .or, .e => .or_e
  | .or, .h => .or_h  | .or, .l => .or_l  | .or, .a => .or_a  | .cp, .b => .cp_b  | .cp, .c => .cp_c
  | .cp, .d => .cp_d  | .cp, .e => .cp_e  | .cp, .h => .cp_h  | .cp, .l => .cp_l  | .cp, .a => .cp_a

/-- `alu A,(HL)` (R202 to R223). -/
def aluMem (o : Alu) : Instr :=
  match o with
  | .add => .add_a_atHL  | .adc => .adc_a_atHL  | .sub => .sub_atHL  | .sbc => .sbc_a_atHL  | .and => .and_atHL
  | .xor => .xor_atHL  | .or => .or_atHL  | .cp => .cp_atHL

/-- `alu A,d8` (R203 to R224). -/
def aluImm (o : Alu) (v : Byte) : Instr :=
  match o with
  | .add => .add_a_d8 v  | .adc => .adc_a_d8 v  | .sub => .sub_d8 v  | .sbc => .sbc_a_d8 v  | .and => .and_d8 v
  | .xor => .xor_d8 v  | .or => .or_d8 v  | .cp => .cp_d8 v

/-- `JR cc,e8` (R305). -/
def jrCond (cc : Cond) (e : Byte) : Instr :=
  match cc with
  | .nz => .jr_nz_e8 e  | .z => .jr_z_e8 e  | .nc => .jr_nc_e8 e  | .c => .jr_c_e8 e

/-- `JP cc,a16` (R302). -/
def jpCond (cc : Cond) (a : Word) : Instr :=
  match cc with
  | .nz => .jp_nz_a16 a  | .z => .jp_z_a16 a  | .nc => .jp_nc_a16 a  | .c => .jp_c_a16 a

/-- `CALL cc,a16` (R307). -/
def callCond (cc : Cond) (a : Word) : Instr :=
  match cc with
  | .nz => .call_nz_a16 a  | .z => .call_z_a16 a  | .nc => .call_nc_a16 a  | .c => .call_c_a16 a

/-- `RET cc` (R309). -/
def retCond (cc : Cond) : Instr :=
  match cc with
  | .nz => .ret_nz  | .z => .ret_z  | .nc => .ret_nc  | .c => .ret_c

/-- `RST n` with `n = t * 8` (R311). -/
def rst (t : Fin 8) : Instr :=
  match t with
  | 0 => .rst_00  | 1 => .rst_08  | 2 => .rst_10  | 3 => .rst_18  | 4 => .rst_20  | 5 => .rst_28  | 6 => .rst_30
  | 7 => .rst_38

/-- Rotates and shifts of a register (R265 to R279). -/
def rotReg (o : Rot) (r : Reg) : Instr :=
  match o, r with
  | .rlc, .b => .rlc_b  | .rlc, .c => .rlc_c  | .rlc, .d => .rlc_d  | .rlc, .e => .rlc_e  | .rlc, .h => .rlc_h
  | .rlc, .l => .rlc_l  | .rlc, .a => .rlc_a  | .rrc, .b => .rrc_b  | .rrc, .c => .rrc_c  | .rrc, .d => .rrc_d
  | .rrc, .e => .rrc_e  | .rrc, .h => .rrc_h  | .rrc, .l => .rrc_l  | .rrc, .a => .rrc_a  | .rl, .b => .rl_b
  | .rl, .c => .rl_c  | .rl, .d => .rl_d  | .rl, .e => .rl_e  | .rl, .h => .rl_h  | .rl, .l => .rl_l
  | .rl, .a => .rl_a  | .rr, .b => .rr_b  | .rr, .c => .rr_c  | .rr, .d => .rr_d  | .rr, .e => .rr_e
  | .rr, .h => .rr_h  | .rr, .l => .rr_l  | .rr, .a => .rr_a  | .sla, .b => .sla_b  | .sla, .c => .sla_c
  | .sla, .d => .sla_d  | .sla, .e => .sla_e  | .sla, .h => .sla_h  | .sla, .l => .sla_l  | .sla, .a => .sla_a
  | .sra, .b => .sra_b  | .sra, .c => .sra_c  | .sra, .d => .sra_d  | .sra, .e => .sra_e  | .sra, .h => .sra_h
  | .sra, .l => .sra_l  | .sra, .a => .sra_a  | .swap, .b => .swap_b  | .swap, .c => .swap_c  | .swap, .d => .swap_d
  | .swap, .e => .swap_e  | .swap, .h => .swap_h  | .swap, .l => .swap_l  | .swap, .a => .swap_a
  | .srl, .b => .srl_b  | .srl, .c => .srl_c  | .srl, .d => .srl_d  | .srl, .e => .srl_e  | .srl, .h => .srl_h
  | .srl, .l => .srl_l  | .srl, .a => .srl_a

/-- Rotates and shifts of the byte at HL (R266 to R280). -/
def rotMem (o : Rot) : Instr :=
  match o with
  | .rlc => .rlc_atHL  | .rrc => .rrc_atHL  | .rl => .rl_atHL  | .rr => .rr_atHL  | .sla => .sla_atHL
  | .sra => .sra_atHL  | .swap => .swap_atHL  | .srl => .srl_atHL

/-- `BIT b,r` (R281). -/
def bitReg (b : Fin 8) (r : Reg) : Instr :=
  match b, r with
  | 0, .b => .bit_0_b  | 0, .c => .bit_0_c  | 0, .d => .bit_0_d  | 0, .e => .bit_0_e  | 0, .h => .bit_0_h
  | 0, .l => .bit_0_l  | 0, .a => .bit_0_a  | 1, .b => .bit_1_b  | 1, .c => .bit_1_c  | 1, .d => .bit_1_d
  | 1, .e => .bit_1_e  | 1, .h => .bit_1_h  | 1, .l => .bit_1_l  | 1, .a => .bit_1_a  | 2, .b => .bit_2_b
  | 2, .c => .bit_2_c  | 2, .d => .bit_2_d  | 2, .e => .bit_2_e  | 2, .h => .bit_2_h  | 2, .l => .bit_2_l
  | 2, .a => .bit_2_a  | 3, .b => .bit_3_b  | 3, .c => .bit_3_c  | 3, .d => .bit_3_d  | 3, .e => .bit_3_e
  | 3, .h => .bit_3_h  | 3, .l => .bit_3_l  | 3, .a => .bit_3_a  | 4, .b => .bit_4_b  | 4, .c => .bit_4_c
  | 4, .d => .bit_4_d  | 4, .e => .bit_4_e  | 4, .h => .bit_4_h  | 4, .l => .bit_4_l  | 4, .a => .bit_4_a
  | 5, .b => .bit_5_b  | 5, .c => .bit_5_c  | 5, .d => .bit_5_d  | 5, .e => .bit_5_e  | 5, .h => .bit_5_h
  | 5, .l => .bit_5_l  | 5, .a => .bit_5_a  | 6, .b => .bit_6_b  | 6, .c => .bit_6_c  | 6, .d => .bit_6_d
  | 6, .e => .bit_6_e  | 6, .h => .bit_6_h  | 6, .l => .bit_6_l  | 6, .a => .bit_6_a  | 7, .b => .bit_7_b
  | 7, .c => .bit_7_c  | 7, .d => .bit_7_d  | 7, .e => .bit_7_e  | 7, .h => .bit_7_h  | 7, .l => .bit_7_l
  | 7, .a => .bit_7_a

/-- `BIT b,(HL)` (R282). -/
def bitMem (b : Fin 8) : Instr :=
  match b with
  | 0 => .bit_0_atHL  | 1 => .bit_1_atHL  | 2 => .bit_2_atHL  | 3 => .bit_3_atHL  | 4 => .bit_4_atHL
  | 5 => .bit_5_atHL  | 6 => .bit_6_atHL  | 7 => .bit_7_atHL

/-- `RES b,r` (R283). -/
def resReg (b : Fin 8) (r : Reg) : Instr :=
  match b, r with
  | 0, .b => .res_0_b  | 0, .c => .res_0_c  | 0, .d => .res_0_d  | 0, .e => .res_0_e  | 0, .h => .res_0_h
  | 0, .l => .res_0_l  | 0, .a => .res_0_a  | 1, .b => .res_1_b  | 1, .c => .res_1_c  | 1, .d => .res_1_d
  | 1, .e => .res_1_e  | 1, .h => .res_1_h  | 1, .l => .res_1_l  | 1, .a => .res_1_a  | 2, .b => .res_2_b
  | 2, .c => .res_2_c  | 2, .d => .res_2_d  | 2, .e => .res_2_e  | 2, .h => .res_2_h  | 2, .l => .res_2_l
  | 2, .a => .res_2_a  | 3, .b => .res_3_b  | 3, .c => .res_3_c  | 3, .d => .res_3_d  | 3, .e => .res_3_e
  | 3, .h => .res_3_h  | 3, .l => .res_3_l  | 3, .a => .res_3_a  | 4, .b => .res_4_b  | 4, .c => .res_4_c
  | 4, .d => .res_4_d  | 4, .e => .res_4_e  | 4, .h => .res_4_h  | 4, .l => .res_4_l  | 4, .a => .res_4_a
  | 5, .b => .res_5_b  | 5, .c => .res_5_c  | 5, .d => .res_5_d  | 5, .e => .res_5_e  | 5, .h => .res_5_h
  | 5, .l => .res_5_l  | 5, .a => .res_5_a  | 6, .b => .res_6_b  | 6, .c => .res_6_c  | 6, .d => .res_6_d
  | 6, .e => .res_6_e  | 6, .h => .res_6_h  | 6, .l => .res_6_l  | 6, .a => .res_6_a  | 7, .b => .res_7_b
  | 7, .c => .res_7_c  | 7, .d => .res_7_d  | 7, .e => .res_7_e  | 7, .h => .res_7_h  | 7, .l => .res_7_l
  | 7, .a => .res_7_a

/-- `RES b,(HL)` (R284). -/
def resMem (b : Fin 8) : Instr :=
  match b with
  | 0 => .res_0_atHL  | 1 => .res_1_atHL  | 2 => .res_2_atHL  | 3 => .res_3_atHL  | 4 => .res_4_atHL
  | 5 => .res_5_atHL  | 6 => .res_6_atHL  | 7 => .res_7_atHL

/-- `SET b,r` (R285). -/
def setReg (b : Fin 8) (r : Reg) : Instr :=
  match b, r with
  | 0, .b => .set_0_b  | 0, .c => .set_0_c  | 0, .d => .set_0_d  | 0, .e => .set_0_e  | 0, .h => .set_0_h
  | 0, .l => .set_0_l  | 0, .a => .set_0_a  | 1, .b => .set_1_b  | 1, .c => .set_1_c  | 1, .d => .set_1_d
  | 1, .e => .set_1_e  | 1, .h => .set_1_h  | 1, .l => .set_1_l  | 1, .a => .set_1_a  | 2, .b => .set_2_b
  | 2, .c => .set_2_c  | 2, .d => .set_2_d  | 2, .e => .set_2_e  | 2, .h => .set_2_h  | 2, .l => .set_2_l
  | 2, .a => .set_2_a  | 3, .b => .set_3_b  | 3, .c => .set_3_c  | 3, .d => .set_3_d  | 3, .e => .set_3_e
  | 3, .h => .set_3_h  | 3, .l => .set_3_l  | 3, .a => .set_3_a  | 4, .b => .set_4_b  | 4, .c => .set_4_c
  | 4, .d => .set_4_d  | 4, .e => .set_4_e  | 4, .h => .set_4_h  | 4, .l => .set_4_l  | 4, .a => .set_4_a
  | 5, .b => .set_5_b  | 5, .c => .set_5_c  | 5, .d => .set_5_d  | 5, .e => .set_5_e  | 5, .h => .set_5_h
  | 5, .l => .set_5_l  | 5, .a => .set_5_a  | 6, .b => .set_6_b  | 6, .c => .set_6_c  | 6, .d => .set_6_d
  | 6, .e => .set_6_e  | 6, .h => .set_6_h  | 6, .l => .set_6_l  | 6, .a => .set_6_a  | 7, .b => .set_7_b
  | 7, .c => .set_7_c  | 7, .d => .set_7_d  | 7, .e => .set_7_e  | 7, .h => .set_7_h  | 7, .l => .set_7_l
  | 7, .a => .set_7_a

/-- `SET b,(HL)` (R286). -/
def setMem (b : Fin 8) : Instr :=
  match b with
  | 0 => .set_0_atHL  | 1 => .set_1_atHL  | 2 => .set_2_atHL  | 3 => .set_3_atHL  | 4 => .set_4_atHL
  | 5 => .set_5_atHL  | 6 => .set_6_atHL  | 7 => .set_7_atHL

/-! ## Fields -/

/-- `x = b[7:6]` (R123). -/
def fieldX (b : Byte) : Fin 4 := (b.extractLsb' 6 2).toFin

/-- `y = b[5:3]` (R123). -/
def fieldY (b : Byte) : Fin 8 := (b.extractLsb' 3 3).toFin

/-- `z = b[2:0]` (R123). -/
def fieldZ (b : Byte) : Fin 8 := (b.extractLsb' 0 3).toFin

/-- `p = b[5:4]` (R123). -/
def fieldP (b : Byte) : Fin 4 := (b.extractLsb' 4 2).toFin

/-- `q = b[3]` (R123). -/
def fieldQ (b : Byte) : Bool := b.getLsbD 3

/-- The register field `r8`; `none` is the code 6, the byte at HL (R124). -/
def regOf (k : Fin 8) : Option Reg :=
  match k with
  | 0 => some .b
  | 1 => some .c
  | 2 => some .d
  | 3 => some .e
  | 4 => some .h
  | 5 => some .l
  | 6 => none
  | 7 => some .a

/-- The pair field `rp` (R125). -/
def pairOf (k : Fin 4) : Pair :=
  match k with
  | 0 => .bc
  | 1 => .de
  | 2 => .hl
  | 3 => .sp

/-- The pair field `rp2` (R125). -/
def stackPairOf (k : Fin 4) : StackPair :=
  match k with
  | 0 => .bc
  | 1 => .de
  | 2 => .hl
  | 3 => .af

/-- The ALU field (R127). -/
def aluOf (k : Fin 8) : Alu :=
  match k with
  | 0 => .add
  | 1 => .adc
  | 2 => .sub
  | 3 => .sbc
  | 4 => .and
  | 5 => .xor
  | 6 => .or
  | 7 => .cp

/-- The rotate and shift field (R127). -/
def rotOf (k : Fin 8) : Rot :=
  match k with
  | 0 => .rlc
  | 1 => .rrc
  | 2 => .rl
  | 3 => .rr
  | 4 => .sla
  | 5 => .sra
  | 6 => .swap
  | 7 => .srl

/-! ## The decoder -/

/-- First bytes of three-byte instructions (R120). -/
def threeByteOpcodes : List Byte :=
  [0x01, 0x11, 0x21, 0x31, 0x08, 0xC2, 0xC3, 0xC4, 0xCA, 0xCC, 0xCD, 0xD2, 0xD4, 0xDA, 0xDC, 0xEA, 0xFA]

/-- First bytes of two-byte instructions (R120). -/
def twoByteOpcodes : List Byte :=
  [0x06, 0x0E, 0x16, 0x1E, 0x26, 0x2E, 0x36, 0x3E, 0x10, 0x18, 0x20, 0x28, 0x30, 0x38, 0xC6, 0xCE, 0xD6, 0xDE, 0xE6,
    0xEE, 0xF6, 0xFE, 0xE0, 0xF0, 0xE8, 0xF8, 0xCB]

/-- The length in bytes, told by the first byte alone (R120). -/
def instrLength (op : Byte) : Nat := if op ∈ threeByteOpcodes then 3 else if op ∈ twoByteOpcodes then 2 else 1

/-- `x = 0, z = 0` (R130). -/
def decodeX0Z0 (y : Fin 8) (v : Byte) (w : Word) : Instr :=
  match y with
  | 0 => .nop
  | 1 => .ld_atA16_sp w
  | 2 => .stop v
  | 3 => .jr_e8 v
  | 4 => jrCond .nz v
  | 5 => jrCond .z v
  | 6 => jrCond .nc v
  | 7 => jrCond .c v

/-- `x = 0, z = 2`: the loads and stores of A through a pair (R130). -/
def decodeX0Z2 (y : Fin 8) : Instr :=
  match y with
  | 0 => .ld_atBC_a
  | 1 => .ld_a_atBC
  | 2 => .ld_atDE_a
  | 3 => .ld_a_atDE
  | 4 => .ld_atHLinc_a
  | 5 => .ld_a_atHLinc
  | 6 => .ld_atHLdec_a
  | 7 => .ld_a_atHLdec

/-- `x = 0, z = 7` (R130). -/
def decodeX0Z7 (y : Fin 8) : Instr :=
  match y with
  | 0 => .rlca
  | 1 => .rrca
  | 2 => .rla
  | 3 => .rra
  | 4 => .daa
  | 5 => .cpl
  | 6 => .scf
  | 7 => .ccf

/-- `x = 0` (R130); `v` is the second byte, `w` the word of the second and third. -/
def decodeX0 (op v : Byte) (w : Word) : Instr :=
  match fieldZ op with
  | 0 => decodeX0Z0 (fieldY op) v w
  | 1 => if fieldQ op then addHlPair (pairOf (fieldP op)) else ldPairImm (pairOf (fieldP op)) w
  | 2 => decodeX0Z2 (fieldY op)
  | 3 => if fieldQ op then decPair (pairOf (fieldP op)) else incPair (pairOf (fieldP op))
  | 4 =>
    match regOf (fieldY op) with
    | some r => incReg r
    | none => .inc_atHL
  | 5 =>
    match regOf (fieldY op) with
    | some r => decReg r
    | none => .dec_atHL
  | 6 =>
    match regOf (fieldY op) with
    | some r => ldRegImm r v
    | none => .ld_atHL_d8 v
  | 7 => decodeX0Z7 (fieldY op)

/-- `x = 1`: the register moves and HALT (R130). -/
def decodeX1 (op : Byte) : Instr :=
  match regOf (fieldY op), regOf (fieldZ op) with
  | some dst, some src => ldRegReg dst src
  | some r, none => ldRegMem r
  | none, some r => ldMemReg r
  | none, none => .halt

/-- `x = 2`: the ALU operations (R130). -/
def decodeX2 (op : Byte) : Instr :=
  match regOf (fieldZ op) with
  | some r => aluReg (aluOf (fieldY op)) r
  | none => aluMem (aluOf (fieldY op))

/-- `x = 3, z = 0` (R130). -/
def decodeX3Z0 (y : Fin 8) (v : Byte) : Instr :=
  match y with
  | 0 => retCond .nz
  | 1 => retCond .z
  | 2 => retCond .nc
  | 3 => retCond .c
  | 4 => .ldh_atA8_a v
  | 5 => .add_sp_e8 v
  | 6 => .ldh_a_atA8 v
  | 7 => .ld_hl_spE8 v

/-- `x = 3, z = 1, q = 1` (R130). -/
def decodeX3Z1 (p : Fin 4) : Instr :=
  match p with
  | 0 => .ret
  | 1 => .reti
  | 2 => .jp_hl
  | 3 => .ld_sp_hl

/-- `x = 3, z = 2` (R130). -/
def decodeX3Z2 (y : Fin 8) (w : Word) : Instr :=
  match y with
  | 0 => jpCond .nz w
  | 1 => jpCond .z w
  | 2 => jpCond .nc w
  | 3 => jpCond .c w
  | 4 => .ldh_atC_a
  | 5 => .ld_atA16_a w
  | 6 => .ldh_a_atC
  | 7 => .ld_a_atA16 w

/-- The second byte after 0xCB: every value is defined (R131). -/
def decodeCB (op2 : Byte) : Instr :=
  match fieldX op2, regOf (fieldZ op2) with
  | 0, some r => rotReg (rotOf (fieldY op2)) r
  | 0, none => rotMem (rotOf (fieldY op2))
  | 1, some r => bitReg (fieldY op2) r
  | 1, none => bitMem (fieldY op2)
  | 2, some r => resReg (fieldY op2) r
  | 2, none => resMem (fieldY op2)
  | 3, some r => setReg (fieldY op2) r
  | 3, none => setMem (fieldY op2)

/-- `x = 3, z = 3` (R130); `y = 1` is the prefix, whose second byte selects the instruction (R122). -/
def decodeX3Z3 (y : Fin 8) (v : Byte) (w : Word) : Instr :=
  match y with
  | 0 => .jp_a16 w
  | 1 => decodeCB v
  | 2 => .illegal_d3
  | 3 => .illegal_db
  | 4 => .illegal_e3
  | 5 => .illegal_eb
  | 6 => .di
  | 7 => .ei

/-- `x = 3, z = 4` (R130). -/
def decodeX3Z4 (y : Fin 8) (w : Word) : Instr :=
  match y with
  | 0 => callCond .nz w
  | 1 => callCond .z w
  | 2 => callCond .nc w
  | 3 => callCond .c w
  | 4 => .illegal_e4
  | 5 => .illegal_ec
  | 6 => .illegal_f4
  | 7 => .illegal_fc

/-- `x = 3, z = 5, q = 1` (R130). -/
def decodeX3Z5 (p : Fin 4) (w : Word) : Instr :=
  match p with
  | 0 => .call_a16 w
  | 1 => .illegal_dd
  | 2 => .illegal_ed
  | 3 => .illegal_fd

/-- `x = 3` (R130). -/
def decodeX3 (op v : Byte) (w : Word) : Instr :=
  match fieldZ op with
  | 0 => decodeX3Z0 (fieldY op) v
  | 1 => if fieldQ op then decodeX3Z1 (fieldP op) else popPair (stackPairOf (fieldP op))
  | 2 => decodeX3Z2 (fieldY op) w
  | 3 => decodeX3Z3 (fieldY op) v w
  | 4 => decodeX3Z4 (fieldY op) w
  | 5 => if fieldQ op then decodeX3Z5 (fieldP op) w else pushPair (stackPairOf (fieldP op))
  | 6 => aluImm (aluOf (fieldY op)) v
  | 7 => rst (fieldY op)

/-- The instruction that the opcode byte and the two bytes after it stand for; a byte the length of R120 does not
count is not looked at.  Total: every opcode selects one row (R135). -/
def decodeBytes (op b1 b2 : Byte) : Instr :=
  match fieldX op with
  | 0 => decodeX0 op b1 (joinBytes b1 b2)
  | 1 => decodeX1 op
  | 2 => decodeX2 op
  | 3 => decodeX3 op b1 (joinBytes b1 b2)

/-- Why a list of bytes is no instruction.  No byte value is a reason (R135): only the end of the list is. -/
inductive DecodeError where
  | noBytes
  | truncated (op : Byte)
  deriving DecidableEq, Repr

/-- The instruction at the head of a list of bytes, and the bytes after it. -/
def decode (bytes : List Byte) : Except DecodeError (Instr × List Byte) :=
  match bytes with
  | [] => .error .noBytes
  | op :: rest =>
    if rest.length + 1 < instrLength op then .error (.truncated op)
    else .ok (decodeBytes op (rest.getD 0 0) (rest.getD 1 0), rest.drop (instrLength op - 1))

/-- The bytes of a table word, first byte first.  A word of one byte is its byte; of the two-byte words, those of the
table are `0xCB` and `op2`, which the table writes with `0xCB` most significant (R135) and the instructions of this
package least significant: whichever of the two bytes is `0xCB` comes first (log entry 6).  The bytes above are 0. -/
def tableBytes (nbits w : Nat) : List Byte :=
  let lo := BitVec.ofNat 8 w
  let hi := BitVec.ofNat 8 (w / 256)
  if nbits ≤ 8 then [lo, 0, 0]
  else if lo ≠ 0xCB#8 ∧ hi = 0xCB#8 then [hi, lo, 0]
  else if nbits ≤ 16 then [lo, hi, 0]
  else [lo, hi, BitVec.ofNat 8 (w / 65536)]

/-- The instruction the decoder reads from a table word. -/
def decodeTableWord (nbits w : Nat) : Option Instr :=
  match decode (tableBytes nbits w) with
  | .ok (i, _) => some i
  | .error _ => none

/-! ## The encoder -/

/-- The bytes of an instruction, row by row from the opcode table. -/
def encode : Instr → List Byte
  | .nop => [0x00]
  | .ld_bc_d16 v => [0x01, loByte v, hiByte v]
  | .ld_atBC_a => [0x02]
  | .inc_bc => [0x03]
  | .inc_b => [0x04]
  | .dec_b => [0x05]
  | .ld_b_d8 v => [0x06, v]
  | .rlca => [0x07]
  | .ld_atA16_sp v => [0x08, loByte v, hiByte v]
  | .add_hl_bc => [0x09]
  | .ld_a_atBC => [0x0A]
  | .dec_bc => [0x0B]
  | .inc_c => [0x0C]
  | .dec_c => [0x0D]
  | .ld_c_d8 v => [0x0E, v]
  | .rrca => [0x0F]
  | .stop v => [0x10, v]
  | .ld_de_d16 v => [0x11, loByte v, hiByte v]
  | .ld_atDE_a => [0x12]
  | .inc_de => [0x13]
  | .inc_d => [0x14]
  | .dec_d => [0x15]
  | .ld_d_d8 v => [0x16, v]
  | .rla => [0x17]
  | .jr_e8 v => [0x18, v]
  | .add_hl_de => [0x19]
  | .ld_a_atDE => [0x1A]
  | .dec_de => [0x1B]
  | .inc_e => [0x1C]
  | .dec_e => [0x1D]
  | .ld_e_d8 v => [0x1E, v]
  | .rra => [0x1F]
  | .jr_nz_e8 v => [0x20, v]
  | .ld_hl_d16 v => [0x21, loByte v, hiByte v]
  | .ld_atHLinc_a => [0x22]
  | .inc_hl => [0x23]
  | .inc_h => [0x24]
  | .dec_h => [0x25]
  | .ld_h_d8 v => [0x26, v]
  | .daa => [0x27]
  | .jr_z_e8 v => [0x28, v]
  | .add_hl_hl => [0x29]
  | .ld_a_atHLinc => [0x2A]
  | .dec_hl => [0x2B]
  | .inc_l => [0x2C]
  | .dec_l => [0x2D]
  | .ld_l_d8 v => [0x2E, v]
  | .cpl => [0x2F]
  | .jr_nc_e8 v => [0x30, v]
  | .ld_sp_d16 v => [0x31, loByte v, hiByte v]
  | .ld_atHLdec_a => [0x32]
  | .inc_sp => [0x33]
  | .inc_atHL => [0x34]
  | .dec_atHL => [0x35]
  | .ld_atHL_d8 v => [0x36, v]
  | .scf => [0x37]
  | .jr_c_e8 v => [0x38, v]
  | .add_hl_sp => [0x39]
  | .ld_a_atHLdec => [0x3A]
  | .dec_sp => [0x3B]
  | .inc_a => [0x3C]
  | .dec_a => [0x3D]
  | .ld_a_d8 v => [0x3E, v]
  | .ccf => [0x3F]
  | .ld_b_b => [0x40]
  | .ld_b_c => [0x41]
  | .ld_b_d => [0x42]
  | .ld_b_e => [0x43]
  | .ld_b_h => [0x44]
  | .ld_b_l => [0x45]
  | .ld_b_atHL => [0x46]
  | .ld_b_a => [0x47]
  | .ld_c_b => [0x48]
  | .ld_c_c => [0x49]
  | .ld_c_d => [0x4A]
  | .ld_c_e => [0x4B]
  | .ld_c_h => [0x4C]
  | .ld_c_l => [0x4D]
  | .ld_c_atHL => [0x4E]
  | .ld_c_a => [0x4F]
  | .ld_d_b => [0x50]
  | .ld_d_c => [0x51]
  | .ld_d_d => [0x52]
  | .ld_d_e => [0x53]
  | .ld_d_h => [0x54]
  | .ld_d_l => [0x55]
  | .ld_d_atHL => [0x56]
  | .ld_d_a => [0x57]
  | .ld_e_b => [0x58]
  | .ld_e_c => [0x59]
  | .ld_e_d => [0x5A]
  | .ld_e_e => [0x5B]
  | .ld_e_h => [0x5C]
  | .ld_e_l => [0x5D]
  | .ld_e_atHL => [0x5E]
  | .ld_e_a => [0x5F]
  | .ld_h_b => [0x60]
  | .ld_h_c => [0x61]
  | .ld_h_d => [0x62]
  | .ld_h_e => [0x63]
  | .ld_h_h => [0x64]
  | .ld_h_l => [0x65]
  | .ld_h_atHL => [0x66]
  | .ld_h_a => [0x67]
  | .ld_l_b => [0x68]
  | .ld_l_c => [0x69]
  | .ld_l_d => [0x6A]
  | .ld_l_e => [0x6B]
  | .ld_l_h => [0x6C]
  | .ld_l_l => [0x6D]
  | .ld_l_atHL => [0x6E]
  | .ld_l_a => [0x6F]
  | .ld_atHL_b => [0x70]
  | .ld_atHL_c => [0x71]
  | .ld_atHL_d => [0x72]
  | .ld_atHL_e => [0x73]
  | .ld_atHL_h => [0x74]
  | .ld_atHL_l => [0x75]
  | .halt => [0x76]
  | .ld_atHL_a => [0x77]
  | .ld_a_b => [0x78]
  | .ld_a_c => [0x79]
  | .ld_a_d => [0x7A]
  | .ld_a_e => [0x7B]
  | .ld_a_h => [0x7C]
  | .ld_a_l => [0x7D]
  | .ld_a_atHL => [0x7E]
  | .ld_a_a => [0x7F]
  | .add_a_b => [0x80]
  | .add_a_c => [0x81]
  | .add_a_d => [0x82]
  | .add_a_e => [0x83]
  | .add_a_h => [0x84]
  | .add_a_l => [0x85]
  | .add_a_atHL => [0x86]
  | .add_a_a => [0x87]
  | .adc_a_b => [0x88]
  | .adc_a_c => [0x89]
  | .adc_a_d => [0x8A]
  | .adc_a_e => [0x8B]
  | .adc_a_h => [0x8C]
  | .adc_a_l => [0x8D]
  | .adc_a_atHL => [0x8E]
  | .adc_a_a => [0x8F]
  | .sub_b => [0x90]
  | .sub_c => [0x91]
  | .sub_d => [0x92]
  | .sub_e => [0x93]
  | .sub_h => [0x94]
  | .sub_l => [0x95]
  | .sub_atHL => [0x96]
  | .sub_a => [0x97]
  | .sbc_a_b => [0x98]
  | .sbc_a_c => [0x99]
  | .sbc_a_d => [0x9A]
  | .sbc_a_e => [0x9B]
  | .sbc_a_h => [0x9C]
  | .sbc_a_l => [0x9D]
  | .sbc_a_atHL => [0x9E]
  | .sbc_a_a => [0x9F]
  | .and_b => [0xA0]
  | .and_c => [0xA1]
  | .and_d => [0xA2]
  | .and_e => [0xA3]
  | .and_h => [0xA4]
  | .and_l => [0xA5]
  | .and_atHL => [0xA6]
  | .and_a => [0xA7]
  | .xor_b => [0xA8]
  | .xor_c => [0xA9]
  | .xor_d => [0xAA]
  | .xor_e => [0xAB]
  | .xor_h => [0xAC]
  | .xor_l => [0xAD]
  | .xor_atHL => [0xAE]
  | .xor_a => [0xAF]
  | .or_b => [0xB0]
  | .or_c => [0xB1]
  | .or_d => [0xB2]
  | .or_e => [0xB3]
  | .or_h => [0xB4]
  | .or_l => [0xB5]
  | .or_atHL => [0xB6]
  | .or_a => [0xB7]
  | .cp_b => [0xB8]
  | .cp_c => [0xB9]
  | .cp_d => [0xBA]
  | .cp_e => [0xBB]
  | .cp_h => [0xBC]
  | .cp_l => [0xBD]
  | .cp_atHL => [0xBE]
  | .cp_a => [0xBF]
  | .ret_nz => [0xC0]
  | .pop_bc => [0xC1]
  | .jp_nz_a16 v => [0xC2, loByte v, hiByte v]
  | .jp_a16 v => [0xC3, loByte v, hiByte v]
  | .call_nz_a16 v => [0xC4, loByte v, hiByte v]
  | .push_bc => [0xC5]
  | .add_a_d8 v => [0xC6, v]
  | .rst_00 => [0xC7]
  | .ret_z => [0xC8]
  | .ret => [0xC9]
  | .jp_z_a16 v => [0xCA, loByte v, hiByte v]
  | .prefixCB v => [0xCB, v]
  | .call_z_a16 v => [0xCC, loByte v, hiByte v]
  | .call_a16 v => [0xCD, loByte v, hiByte v]
  | .adc_a_d8 v => [0xCE, v]
  | .rst_08 => [0xCF]
  | .ret_nc => [0xD0]
  | .pop_de => [0xD1]
  | .jp_nc_a16 v => [0xD2, loByte v, hiByte v]
  | .illegal_d3 => [0xD3]
  | .call_nc_a16 v => [0xD4, loByte v, hiByte v]
  | .push_de => [0xD5]
  | .sub_d8 v => [0xD6, v]
  | .rst_10 => [0xD7]
  | .ret_c => [0xD8]
  | .reti => [0xD9]
  | .jp_c_a16 v => [0xDA, loByte v, hiByte v]
  | .illegal_db => [0xDB]
  | .call_c_a16 v => [0xDC, loByte v, hiByte v]
  | .illegal_dd => [0xDD]
  | .sbc_a_d8 v => [0xDE, v]
  | .rst_18 => [0xDF]
  | .ldh_atA8_a v => [0xE0, v]
  | .pop_hl => [0xE1]
  | .ldh_atC_a => [0xE2]
  | .illegal_e3 => [0xE3]
  | .illegal_e4 => [0xE4]
  | .push_hl => [0xE5]
  | .and_d8 v => [0xE6, v]
  | .rst_20 => [0xE7]
  | .add_sp_e8 v => [0xE8, v]
  | .jp_hl => [0xE9]
  | .ld_atA16_a v => [0xEA, loByte v, hiByte v]
  | .illegal_eb => [0xEB]
  | .illegal_ec => [0xEC]
  | .illegal_ed => [0xED]
  | .xor_d8 v => [0xEE, v]
  | .rst_28 => [0xEF]
  | .ldh_a_atA8 v => [0xF0, v]
  | .pop_af => [0xF1]
  | .ldh_a_atC => [0xF2]
  | .di => [0xF3]
  | .illegal_f4 => [0xF4]
  | .push_af => [0xF5]
  | .or_d8 v => [0xF6, v]
  | .rst_30 => [0xF7]
  | .ld_hl_spE8 v => [0xF8, v]
  | .ld_sp_hl => [0xF9]
  | .ld_a_atA16 v => [0xFA, loByte v, hiByte v]
  | .ei => [0xFB]
  | .illegal_fc => [0xFC]
  | .illegal_fd => [0xFD]
  | .cp_d8 v => [0xFE, v]
  | .rst_38 => [0xFF]
  | .rlc_b => [0xCB, 0x00]
  | .rlc_c => [0xCB, 0x01]
  | .rlc_d => [0xCB, 0x02]
  | .rlc_e => [0xCB, 0x03]
  | .rlc_h => [0xCB, 0x04]
  | .rlc_l => [0xCB, 0x05]
  | .rlc_atHL => [0xCB, 0x06]
  | .rlc_a => [0xCB, 0x07]
  | .rrc_b => [0xCB, 0x08]
  | .rrc_c => [0xCB, 0x09]
  | .rrc_d => [0xCB, 0x0A]
  | .rrc_e => [0xCB, 0x0B]
  | .rrc_h => [0xCB, 0x0C]
  | .rrc_l => [0xCB, 0x0D]
  | .rrc_atHL => [0xCB, 0x0E]
  | .rrc_a => [0xCB, 0x0F]
  | .rl_b => [0xCB, 0x10]
  | .rl_c => [0xCB, 0x11]
  | .rl_d => [0xCB, 0x12]
  | .rl_e => [0xCB, 0x13]
  | .rl_h => [0xCB, 0x14]
  | .rl_l => [0xCB, 0x15]
  | .rl_atHL => [0xCB, 0x16]
  | .rl_a => [0xCB, 0x17]
  | .rr_b => [0xCB, 0x18]
  | .rr_c => [0xCB, 0x19]
  | .rr_d => [0xCB, 0x1A]
  | .rr_e => [0xCB, 0x1B]
  | .rr_h => [0xCB, 0x1C]
  | .rr_l => [0xCB, 0x1D]
  | .rr_atHL => [0xCB, 0x1E]
  | .rr_a => [0xCB, 0x1F]
  | .sla_b => [0xCB, 0x20]
  | .sla_c => [0xCB, 0x21]
  | .sla_d => [0xCB, 0x22]
  | .sla_e => [0xCB, 0x23]
  | .sla_h => [0xCB, 0x24]
  | .sla_l => [0xCB, 0x25]
  | .sla_atHL => [0xCB, 0x26]
  | .sla_a => [0xCB, 0x27]
  | .sra_b => [0xCB, 0x28]
  | .sra_c => [0xCB, 0x29]
  | .sra_d => [0xCB, 0x2A]
  | .sra_e => [0xCB, 0x2B]
  | .sra_h => [0xCB, 0x2C]
  | .sra_l => [0xCB, 0x2D]
  | .sra_atHL => [0xCB, 0x2E]
  | .sra_a => [0xCB, 0x2F]
  | .swap_b => [0xCB, 0x30]
  | .swap_c => [0xCB, 0x31]
  | .swap_d => [0xCB, 0x32]
  | .swap_e => [0xCB, 0x33]
  | .swap_h => [0xCB, 0x34]
  | .swap_l => [0xCB, 0x35]
  | .swap_atHL => [0xCB, 0x36]
  | .swap_a => [0xCB, 0x37]
  | .srl_b => [0xCB, 0x38]
  | .srl_c => [0xCB, 0x39]
  | .srl_d => [0xCB, 0x3A]
  | .srl_e => [0xCB, 0x3B]
  | .srl_h => [0xCB, 0x3C]
  | .srl_l => [0xCB, 0x3D]
  | .srl_atHL => [0xCB, 0x3E]
  | .srl_a => [0xCB, 0x3F]
  | .bit_0_b => [0xCB, 0x40]
  | .bit_0_c => [0xCB, 0x41]
  | .bit_0_d => [0xCB, 0x42]
  | .bit_0_e => [0xCB, 0x43]
  | .bit_0_h => [0xCB, 0x44]
  | .bit_0_l => [0xCB, 0x45]
  | .bit_0_atHL => [0xCB, 0x46]
  | .bit_0_a => [0xCB, 0x47]
  | .bit_1_b => [0xCB, 0x48]
  | .bit_1_c => [0xCB, 0x49]
  | .bit_1_d => [0xCB, 0x4A]
  | .bit_1_e => [0xCB, 0x4B]
  | .bit_1_h => [0xCB, 0x4C]
  | .bit_1_l => [0xCB, 0x4D]
  | .bit_1_atHL => [0xCB, 0x4E]
  | .bit_1_a => [0xCB, 0x4F]
  | .bit_2_b => [0xCB, 0x50]
  | .bit_2_c => [0xCB, 0x51]
  | .bit_2_d => [0xCB, 0x52]
  | .bit_2_e => [0xCB, 0x53]
  | .bit_2_h => [0xCB, 0x54]
  | .bit_2_l => [0xCB, 0x55]
  | .bit_2_atHL => [0xCB, 0x56]
  | .bit_2_a => [0xCB, 0x57]
  | .bit_3_b => [0xCB, 0x58]
  | .bit_3_c => [0xCB, 0x59]
  | .bit_3_d => [0xCB, 0x5A]
  | .bit_3_e => [0xCB, 0x5B]
  | .bit_3_h => [0xCB, 0x5C]
  | .bit_3_l => [0xCB, 0x5D]
  | .bit_3_atHL => [0xCB, 0x5E]
  | .bit_3_a => [0xCB, 0x5F]
  | .bit_4_b => [0xCB, 0x60]
  | .bit_4_c => [0xCB, 0x61]
  | .bit_4_d => [0xCB, 0x62]
  | .bit_4_e => [0xCB, 0x63]
  | .bit_4_h => [0xCB, 0x64]
  | .bit_4_l => [0xCB, 0x65]
  | .bit_4_atHL => [0xCB, 0x66]
  | .bit_4_a => [0xCB, 0x67]
  | .bit_5_b => [0xCB, 0x68]
  | .bit_5_c => [0xCB, 0x69]
  | .bit_5_d => [0xCB, 0x6A]
  | .bit_5_e => [0xCB, 0x6B]
  | .bit_5_h => [0xCB, 0x6C]
  | .bit_5_l => [0xCB, 0x6D]
  | .bit_5_atHL => [0xCB, 0x6E]
  | .bit_5_a => [0xCB, 0x6F]
  | .bit_6_b => [0xCB, 0x70]
  | .bit_6_c => [0xCB, 0x71]
  | .bit_6_d => [0xCB, 0x72]
  | .bit_6_e => [0xCB, 0x73]
  | .bit_6_h => [0xCB, 0x74]
  | .bit_6_l => [0xCB, 0x75]
  | .bit_6_atHL => [0xCB, 0x76]
  | .bit_6_a => [0xCB, 0x77]
  | .bit_7_b => [0xCB, 0x78]
  | .bit_7_c => [0xCB, 0x79]
  | .bit_7_d => [0xCB, 0x7A]
  | .bit_7_e => [0xCB, 0x7B]
  | .bit_7_h => [0xCB, 0x7C]
  | .bit_7_l => [0xCB, 0x7D]
  | .bit_7_atHL => [0xCB, 0x7E]
  | .bit_7_a => [0xCB, 0x7F]
  | .res_0_b => [0xCB, 0x80]
  | .res_0_c => [0xCB, 0x81]
  | .res_0_d => [0xCB, 0x82]
  | .res_0_e => [0xCB, 0x83]
  | .res_0_h => [0xCB, 0x84]
  | .res_0_l => [0xCB, 0x85]
  | .res_0_atHL => [0xCB, 0x86]
  | .res_0_a => [0xCB, 0x87]
  | .res_1_b => [0xCB, 0x88]
  | .res_1_c => [0xCB, 0x89]
  | .res_1_d => [0xCB, 0x8A]
  | .res_1_e => [0xCB, 0x8B]
  | .res_1_h => [0xCB, 0x8C]
  | .res_1_l => [0xCB, 0x8D]
  | .res_1_atHL => [0xCB, 0x8E]
  | .res_1_a => [0xCB, 0x8F]
  | .res_2_b => [0xCB, 0x90]
  | .res_2_c => [0xCB, 0x91]
  | .res_2_d => [0xCB, 0x92]
  | .res_2_e => [0xCB, 0x93]
  | .res_2_h => [0xCB, 0x94]
  | .res_2_l => [0xCB, 0x95]
  | .res_2_atHL => [0xCB, 0x96]
  | .res_2_a => [0xCB, 0x97]
  | .res_3_b => [0xCB, 0x98]
  | .res_3_c => [0xCB, 0x99]
  | .res_3_d => [0xCB, 0x9A]
  | .res_3_e => [0xCB, 0x9B]
  | .res_3_h => [0xCB, 0x9C]
  | .res_3_l => [0xCB, 0x9D]
  | .res_3_atHL => [0xCB, 0x9E]
  | .res_3_a => [0xCB, 0x9F]
  | .res_4_b => [0xCB, 0xA0]
  | .res_4_c => [0xCB, 0xA1]
  | .res_4_d => [0xCB, 0xA2]
  | .res_4_e => [0xCB, 0xA3]
  | .res_4_h => [0xCB, 0xA4]
  | .res_4_l => [0xCB, 0xA5]
  | .res_4_atHL => [0xCB, 0xA6]
  | .res_4_a => [0xCB, 0xA7]
  | .res_5_b => [0xCB, 0xA8]
  | .res_5_c => [0xCB, 0xA9]
  | .res_5_d => [0xCB, 0xAA]
  | .res_5_e => [0xCB, 0xAB]
  | .res_5_h => [0xCB, 0xAC]
  | .res_5_l => [0xCB, 0xAD]
  | .res_5_atHL => [0xCB, 0xAE]
  | .res_5_a => [0xCB, 0xAF]
  | .res_6_b => [0xCB, 0xB0]
  | .res_6_c => [0xCB, 0xB1]
  | .res_6_d => [0xCB, 0xB2]
  | .res_6_e => [0xCB, 0xB3]
  | .res_6_h => [0xCB, 0xB4]
  | .res_6_l => [0xCB, 0xB5]
  | .res_6_atHL => [0xCB, 0xB6]
  | .res_6_a => [0xCB, 0xB7]
  | .res_7_b => [0xCB, 0xB8]
  | .res_7_c => [0xCB, 0xB9]
  | .res_7_d => [0xCB, 0xBA]
  | .res_7_e => [0xCB, 0xBB]
  | .res_7_h => [0xCB, 0xBC]
  | .res_7_l => [0xCB, 0xBD]
  | .res_7_atHL => [0xCB, 0xBE]
  | .res_7_a => [0xCB, 0xBF]
  | .set_0_b => [0xCB, 0xC0]
  | .set_0_c => [0xCB, 0xC1]
  | .set_0_d => [0xCB, 0xC2]
  | .set_0_e => [0xCB, 0xC3]
  | .set_0_h => [0xCB, 0xC4]
  | .set_0_l => [0xCB, 0xC5]
  | .set_0_atHL => [0xCB, 0xC6]
  | .set_0_a => [0xCB, 0xC7]
  | .set_1_b => [0xCB, 0xC8]
  | .set_1_c => [0xCB, 0xC9]
  | .set_1_d => [0xCB, 0xCA]
  | .set_1_e => [0xCB, 0xCB]
  | .set_1_h => [0xCB, 0xCC]
  | .set_1_l => [0xCB, 0xCD]
  | .set_1_atHL => [0xCB, 0xCE]
  | .set_1_a => [0xCB, 0xCF]
  | .set_2_b => [0xCB, 0xD0]
  | .set_2_c => [0xCB, 0xD1]
  | .set_2_d => [0xCB, 0xD2]
  | .set_2_e => [0xCB, 0xD3]
  | .set_2_h => [0xCB, 0xD4]
  | .set_2_l => [0xCB, 0xD5]
  | .set_2_atHL => [0xCB, 0xD6]
  | .set_2_a => [0xCB, 0xD7]
  | .set_3_b => [0xCB, 0xD8]
  | .set_3_c => [0xCB, 0xD9]
  | .set_3_d => [0xCB, 0xDA]
  | .set_3_e => [0xCB, 0xDB]
  | .set_3_h => [0xCB, 0xDC]
  | .set_3_l => [0xCB, 0xDD]
  | .set_3_atHL => [0xCB, 0xDE]
  | .set_3_a => [0xCB, 0xDF]
  | .set_4_b => [0xCB, 0xE0]
  | .set_4_c => [0xCB, 0xE1]
  | .set_4_d => [0xCB, 0xE2]
  | .set_4_e => [0xCB, 0xE3]
  | .set_4_h => [0xCB, 0xE4]
  | .set_4_l => [0xCB, 0xE5]
  | .set_4_atHL => [0xCB, 0xE6]
  | .set_4_a => [0xCB, 0xE7]
  | .set_5_b => [0xCB, 0xE8]
  | .set_5_c => [0xCB, 0xE9]
  | .set_5_d => [0xCB, 0xEA]
  | .set_5_e => [0xCB, 0xEB]
  | .set_5_h => [0xCB, 0xEC]
  | .set_5_l => [0xCB, 0xED]
  | .set_5_atHL => [0xCB, 0xEE]
  | .set_5_a => [0xCB, 0xEF]
  | .set_6_b => [0xCB, 0xF0]
  | .set_6_c => [0xCB, 0xF1]
  | .set_6_d => [0xCB, 0xF2]
  | .set_6_e => [0xCB, 0xF3]
  | .set_6_h => [0xCB, 0xF4]
  | .set_6_l => [0xCB, 0xF5]
  | .set_6_atHL => [0xCB, 0xF6]
  | .set_6_a => [0xCB, 0xF7]
  | .set_7_b => [0xCB, 0xF8]
  | .set_7_c => [0xCB, 0xF9]
  | .set_7_d => [0xCB, 0xFA]
  | .set_7_e => [0xCB, 0xFB]
  | .set_7_h => [0xCB, 0xFC]
  | .set_7_l => [0xCB, 0xFD]
  | .set_7_atHL => [0xCB, 0xFE]
  | .set_7_a => [0xCB, 0xFF]

end Sys2Proof
end

