-- ==== Sys2Proof/Machine/Rotate.lean ====
section
/-! DEFINITION. The rotates, shifts and bit instructions (44_rotate_shift_bit.md R260 to R286). -/

namespace Sys2Proof.Machine

open Sys2Proof

/-- A one-byte rotate of A (R261). -/
def State.rotA (s : State) (o : Rot) : State :=
  (s.setReg .a (rotAFlags o s.cpu.a s.cpu.f.c).1).setFlags (rotAFlags o s.cpu.a s.cpu.f.c).2

/-- A CB-prefixed rotate or shift of a register (R265). -/
def State.rotReg (s : State) (o : Rot) (r : Reg) : State :=
  (s.setReg r (rotFlags o (s.reg r) s.cpu.f.c).1).setFlags (rotFlags o (s.reg r) s.cpu.f.c).2

/-- A CB-prefixed rotate or shift of the byte at HL (R266). -/
def State.rotMem (s : State) (o : Rot) : State := s.modifyAtHl fun v f => rotFlags o v f.c

/-- `BIT b,r` (R281). -/
def State.bitReg (s : State) (b : Fin 8) (r : Reg) : State := s.setFlags (bitFlags b (s.reg r) s.cpu.f)

/-- `BIT b,(HL)`: a read, and no write (R282). -/
def State.bitMem (s : State) (b : Fin 8) : State := (s.memRead s.hl).2.setFlags (bitFlags b (s.memRead s.hl).1 s.cpu.f)

/-- `RES b,r` (R283). -/
def State.resReg (s : State) (b : Fin 8) (r : Reg) : State := s.setReg r (resetBit b (s.reg r))

/-- `RES b,(HL)`: the write happens even when the value does not change (R284). -/
def State.resMem (s : State) (b : Fin 8) : State := s.modifyAtHl fun v f => (resetBit b v, f)

/-- `SET b,r` (R285). -/
def State.setBitReg (s : State) (b : Fin 8) (r : Reg) : State := s.setReg r (setBit b (s.reg r))

/-- `SET b,(HL)` (R286). -/
def State.setBitMem (s : State) (b : Fin 8) : State := s.modifyAtHl fun v f => (setBit b v, f)

/-- `RLCA` (R261). -/
def exec_rlca (s : State) : Result := .next (s.rotA .rlc)

/-- `RRCA` (R262). -/
def exec_rrca (s : State) : Result := .next (s.rotA .rrc)

/-- `RLA` (R263). -/
def exec_rla (s : State) : Result := .next (s.rotA .rl)

/-- `RRA` (R264). -/
def exec_rra (s : State) : Result := .next (s.rotA .rr)

/-- `RLC B` (R265). -/
def exec_rlc_b (s : State) : Result := .next (s.rotReg .rlc .b)

/-- `RLC C` (R265). -/
def exec_rlc_c (s : State) : Result := .next (s.rotReg .rlc .c)

/-- `RLC D` (R265). -/
def exec_rlc_d (s : State) : Result := .next (s.rotReg .rlc .d)

/-- `RLC E` (R265). -/
def exec_rlc_e (s : State) : Result := .next (s.rotReg .rlc .e)

/-- `RLC H` (R265). -/
def exec_rlc_h (s : State) : Result := .next (s.rotReg .rlc .h)

/-- `RLC L` (R265). -/
def exec_rlc_l (s : State) : Result := .next (s.rotReg .rlc .l)

/-- `RLC A` (R265). -/
def exec_rlc_a (s : State) : Result := .next (s.rotReg .rlc .a)

/-- `RLC (HL)` (R266). -/
def exec_rlc_atHL (s : State) : Result := .next (s.rotMem .rlc)

/-- `RRC B` (R267). -/
def exec_rrc_b (s : State) : Result := .next (s.rotReg .rrc .b)

/-- `RRC C` (R267). -/
def exec_rrc_c (s : State) : Result := .next (s.rotReg .rrc .c)

/-- `RRC D` (R267). -/
def exec_rrc_d (s : State) : Result := .next (s.rotReg .rrc .d)

/-- `RRC E` (R267). -/
def exec_rrc_e (s : State) : Result := .next (s.rotReg .rrc .e)

/-- `RRC H` (R267). -/
def exec_rrc_h (s : State) : Result := .next (s.rotReg .rrc .h)

/-- `RRC L` (R267). -/
def exec_rrc_l (s : State) : Result := .next (s.rotReg .rrc .l)

/-- `RRC A` (R267). -/
def exec_rrc_a (s : State) : Result := .next (s.rotReg .rrc .a)

/-- `RRC (HL)` (R268). -/
def exec_rrc_atHL (s : State) : Result := .next (s.rotMem .rrc)

/-- `RL B` (R269). -/
def exec_rl_b (s : State) : Result := .next (s.rotReg .rl .b)

/-- `RL C` (R269). -/
def exec_rl_c (s : State) : Result := .next (s.rotReg .rl .c)

/-- `RL D` (R269). -/
def exec_rl_d (s : State) : Result := .next (s.rotReg .rl .d)

/-- `RL E` (R269). -/
def exec_rl_e (s : State) : Result := .next (s.rotReg .rl .e)

/-- `RL H` (R269). -/
def exec_rl_h (s : State) : Result := .next (s.rotReg .rl .h)

/-- `RL L` (R269). -/
def exec_rl_l (s : State) : Result := .next (s.rotReg .rl .l)

/-- `RL A` (R269). -/
def exec_rl_a (s : State) : Result := .next (s.rotReg .rl .a)

/-- `RL (HL)` (R270). -/
def exec_rl_atHL (s : State) : Result := .next (s.rotMem .rl)

/-- `RR B` (R271). -/
def exec_rr_b (s : State) : Result := .next (s.rotReg .rr .b)

/-- `RR C` (R271). -/
def exec_rr_c (s : State) : Result := .next (s.rotReg .rr .c)

/-- `RR D` (R271). -/
def exec_rr_d (s : State) : Result := .next (s.rotReg .rr .d)

/-- `RR E` (R271). -/
def exec_rr_e (s : State) : Result := .next (s.rotReg .rr .e)

/-- `RR H` (R271). -/
def exec_rr_h (s : State) : Result := .next (s.rotReg .rr .h)

/-- `RR L` (R271). -/
def exec_rr_l (s : State) : Result := .next (s.rotReg .rr .l)

/-- `RR A` (R271). -/
def exec_rr_a (s : State) : Result := .next (s.rotReg .rr .a)

/-- `RR (HL)` (R272). -/
def exec_rr_atHL (s : State) : Result := .next (s.rotMem .rr)

/-- `SLA B` (R273). -/
def exec_sla_b (s : State) : Result := .next (s.rotReg .sla .b)

/-- `SLA C` (R273). -/
def exec_sla_c (s : State) : Result := .next (s.rotReg .sla .c)

/-- `SLA D` (R273). -/
def exec_sla_d (s : State) : Result := .next (s.rotReg .sla .d)

/-- `SLA E` (R273). -/
def exec_sla_e (s : State) : Result := .next (s.rotReg .sla .e)

/-- `SLA H` (R273). -/
def exec_sla_h (s : State) : Result := .next (s.rotReg .sla .h)

/-- `SLA L` (R273). -/
def exec_sla_l (s : State) : Result := .next (s.rotReg .sla .l)

/-- `SLA A` (R273). -/
def exec_sla_a (s : State) : Result := .next (s.rotReg .sla .a)

/-- `SLA (HL)` (R274). -/
def exec_sla_atHL (s : State) : Result := .next (s.rotMem .sla)

/-- `SRA B` (R275). -/
def exec_sra_b (s : State) : Result := .next (s.rotReg .sra .b)

/-- `SRA C` (R275). -/
def exec_sra_c (s : State) : Result := .next (s.rotReg .sra .c)

/-- `SRA D` (R275). -/
def exec_sra_d (s : State) : Result := .next (s.rotReg .sra .d)

/-- `SRA E` (R275). -/
def exec_sra_e (s : State) : Result := .next (s.rotReg .sra .e)

/-- `SRA H` (R275). -/
def exec_sra_h (s : State) : Result := .next (s.rotReg .sra .h)

/-- `SRA L` (R275). -/
def exec_sra_l (s : State) : Result := .next (s.rotReg .sra .l)

/-- `SRA A` (R275). -/
def exec_sra_a (s : State) : Result := .next (s.rotReg .sra .a)

/-- `SRA (HL)` (R276). -/
def exec_sra_atHL (s : State) : Result := .next (s.rotMem .sra)

/-- `SWAP B` (R277). -/
def exec_swap_b (s : State) : Result := .next (s.rotReg .swap .b)

/-- `SWAP C` (R277). -/
def exec_swap_c (s : State) : Result := .next (s.rotReg .swap .c)

/-- `SWAP D` (R277). -/
def exec_swap_d (s : State) : Result := .next (s.rotReg .swap .d)

/-- `SWAP E` (R277). -/
def exec_swap_e (s : State) : Result := .next (s.rotReg .swap .e)

/-- `SWAP H` (R277). -/
def exec_swap_h (s : State) : Result := .next (s.rotReg .swap .h)

/-- `SWAP L` (R277). -/
def exec_swap_l (s : State) : Result := .next (s.rotReg .swap .l)

/-- `SWAP A` (R277). -/
def exec_swap_a (s : State) : Result := .next (s.rotReg .swap .a)

/-- `SWAP (HL)` (R278). -/
def exec_swap_atHL (s : State) : Result := .next (s.rotMem .swap)

/-- `SRL B` (R279). -/
def exec_srl_b (s : State) : Result := .next (s.rotReg .srl .b)

/-- `SRL C` (R279). -/
def exec_srl_c (s : State) : Result := .next (s.rotReg .srl .c)

/-- `SRL D` (R279). -/
def exec_srl_d (s : State) : Result := .next (s.rotReg .srl .d)

/-- `SRL E` (R279). -/
def exec_srl_e (s : State) : Result := .next (s.rotReg .srl .e)

/-- `SRL H` (R279). -/
def exec_srl_h (s : State) : Result := .next (s.rotReg .srl .h)

/-- `SRL L` (R279). -/
def exec_srl_l (s : State) : Result := .next (s.rotReg .srl .l)

/-- `SRL A` (R279). -/
def exec_srl_a (s : State) : Result := .next (s.rotReg .srl .a)

/-- `SRL (HL)` (R280). -/
def exec_srl_atHL (s : State) : Result := .next (s.rotMem .srl)

/-- `BIT 0,B` (R281). -/
def exec_bit_0_b (s : State) : Result := .next (s.bitReg 0 .b)

/-- `BIT 0,C` (R281). -/
def exec_bit_0_c (s : State) : Result := .next (s.bitReg 0 .c)

/-- `BIT 0,D` (R281). -/
def exec_bit_0_d (s : State) : Result := .next (s.bitReg 0 .d)

/-- `BIT 0,E` (R281). -/
def exec_bit_0_e (s : State) : Result := .next (s.bitReg 0 .e)

/-- `BIT 0,H` (R281). -/
def exec_bit_0_h (s : State) : Result := .next (s.bitReg 0 .h)

/-- `BIT 0,L` (R281). -/
def exec_bit_0_l (s : State) : Result := .next (s.bitReg 0 .l)

/-- `BIT 0,A` (R281). -/
def exec_bit_0_a (s : State) : Result := .next (s.bitReg 0 .a)

/-- `BIT 0,(HL)` (R282). -/
def exec_bit_0_atHL (s : State) : Result := .next (s.bitMem 0)

/-- `BIT 1,B` (R281). -/
def exec_bit_1_b (s : State) : Result := .next (s.bitReg 1 .b)

/-- `BIT 1,C` (R281). -/
def exec_bit_1_c (s : State) : Result := .next (s.bitReg 1 .c)

/-- `BIT 1,D` (R281). -/
def exec_bit_1_d (s : State) : Result := .next (s.bitReg 1 .d)

/-- `BIT 1,E` (R281). -/
def exec_bit_1_e (s : State) : Result := .next (s.bitReg 1 .e)

/-- `BIT 1,H` (R281). -/
def exec_bit_1_h (s : State) : Result := .next (s.bitReg 1 .h)

/-- `BIT 1,L` (R281). -/
def exec_bit_1_l (s : State) : Result := .next (s.bitReg 1 .l)

/-- `BIT 1,A` (R281). -/
def exec_bit_1_a (s : State) : Result := .next (s.bitReg 1 .a)

/-- `BIT 1,(HL)` (R282). -/
def exec_bit_1_atHL (s : State) : Result := .next (s.bitMem 1)

/-- `BIT 2,B` (R281). -/
def exec_bit_2_b (s : State) : Result := .next (s.bitReg 2 .b)

/-- `BIT 2,C` (R281). -/
def exec_bit_2_c (s : State) : Result := .next (s.bitReg 2 .c)

/-- `BIT 2,D` (R281). -/
def exec_bit_2_d (s : State) : Result := .next (s.bitReg 2 .d)

/-- `BIT 2,E` (R281). -/
def exec_bit_2_e (s : State) : Result := .next (s.bitReg 2 .e)

/-- `BIT 2,H` (R281). -/
def exec_bit_2_h (s : State) : Result := .next (s.bitReg 2 .h)

/-- `BIT 2,L` (R281). -/
def exec_bit_2_l (s : State) : Result := .next (s.bitReg 2 .l)

/-- `BIT 2,A` (R281). -/
def exec_bit_2_a (s : State) : Result := .next (s.bitReg 2 .a)

/-- `BIT 2,(HL)` (R282). -/
def exec_bit_2_atHL (s : State) : Result := .next (s.bitMem 2)

/-- `BIT 3,B` (R281). -/
def exec_bit_3_b (s : State) : Result := .next (s.bitReg 3 .b)

/-- `BIT 3,C` (R281). -/
def exec_bit_3_c (s : State) : Result := .next (s.bitReg 3 .c)

/-- `BIT 3,D` (R281). -/
def exec_bit_3_d (s : State) : Result := .next (s.bitReg 3 .d)

/-- `BIT 3,E` (R281). -/
def exec_bit_3_e (s : State) : Result := .next (s.bitReg 3 .e)

/-- `BIT 3,H` (R281). -/
def exec_bit_3_h (s : State) : Result := .next (s.bitReg 3 .h)

/-- `BIT 3,L` (R281). -/
def exec_bit_3_l (s : State) : Result := .next (s.bitReg 3 .l)

/-- `BIT 3,A` (R281). -/
def exec_bit_3_a (s : State) : Result := .next (s.bitReg 3 .a)

/-- `BIT 3,(HL)` (R282). -/
def exec_bit_3_atHL (s : State) : Result := .next (s.bitMem 3)

/-- `BIT 4,B` (R281). -/
def exec_bit_4_b (s : State) : Result := .next (s.bitReg 4 .b)

/-- `BIT 4,C` (R281). -/
def exec_bit_4_c (s : State) : Result := .next (s.bitReg 4 .c)

/-- `BIT 4,D` (R281). -/
def exec_bit_4_d (s : State) : Result := .next (s.bitReg 4 .d)

/-- `BIT 4,E` (R281). -/
def exec_bit_4_e (s : State) : Result := .next (s.bitReg 4 .e)

/-- `BIT 4,H` (R281). -/
def exec_bit_4_h (s : State) : Result := .next (s.bitReg 4 .h)

/-- `BIT 4,L` (R281). -/
def exec_bit_4_l (s : State) : Result := .next (s.bitReg 4 .l)

/-- `BIT 4,A` (R281). -/
def exec_bit_4_a (s : State) : Result := .next (s.bitReg 4 .a)

/-- `BIT 4,(HL)` (R282). -/
def exec_bit_4_atHL (s : State) : Result := .next (s.bitMem 4)

/-- `BIT 5,B` (R281). -/
def exec_bit_5_b (s : State) : Result := .next (s.bitReg 5 .b)

/-- `BIT 5,C` (R281). -/
def exec_bit_5_c (s : State) : Result := .next (s.bitReg 5 .c)

/-- `BIT 5,D` (R281). -/
def exec_bit_5_d (s : State) : Result := .next (s.bitReg 5 .d)

/-- `BIT 5,E` (R281). -/
def exec_bit_5_e (s : State) : Result := .next (s.bitReg 5 .e)

/-- `BIT 5,H` (R281). -/
def exec_bit_5_h (s : State) : Result := .next (s.bitReg 5 .h)

/-- `BIT 5,L` (R281). -/
def exec_bit_5_l (s : State) : Result := .next (s.bitReg 5 .l)

/-- `BIT 5,A` (R281). -/
def exec_bit_5_a (s : State) : Result := .next (s.bitReg 5 .a)

/-- `BIT 5,(HL)` (R282). -/
def exec_bit_5_atHL (s : State) : Result := .next (s.bitMem 5)

/-- `BIT 6,B` (R281). -/
def exec_bit_6_b (s : State) : Result := .next (s.bitReg 6 .b)

/-- `BIT 6,C` (R281). -/
def exec_bit_6_c (s : State) : Result := .next (s.bitReg 6 .c)

/-- `BIT 6,D` (R281). -/
def exec_bit_6_d (s : State) : Result := .next (s.bitReg 6 .d)

/-- `BIT 6,E` (R281). -/
def exec_bit_6_e (s : State) : Result := .next (s.bitReg 6 .e)

/-- `BIT 6,H` (R281). -/
def exec_bit_6_h (s : State) : Result := .next (s.bitReg 6 .h)

/-- `BIT 6,L` (R281). -/
def exec_bit_6_l (s : State) : Result := .next (s.bitReg 6 .l)

/-- `BIT 6,A` (R281). -/
def exec_bit_6_a (s : State) : Result := .next (s.bitReg 6 .a)

/-- `BIT 6,(HL)` (R282). -/
def exec_bit_6_atHL (s : State) : Result := .next (s.bitMem 6)

/-- `BIT 7,B` (R281). -/
def exec_bit_7_b (s : State) : Result := .next (s.bitReg 7 .b)

/-- `BIT 7,C` (R281). -/
def exec_bit_7_c (s : State) : Result := .next (s.bitReg 7 .c)

/-- `BIT 7,D` (R281). -/
def exec_bit_7_d (s : State) : Result := .next (s.bitReg 7 .d)

/-- `BIT 7,E` (R281). -/
def exec_bit_7_e (s : State) : Result := .next (s.bitReg 7 .e)

/-- `BIT 7,H` (R281). -/
def exec_bit_7_h (s : State) : Result := .next (s.bitReg 7 .h)

/-- `BIT 7,L` (R281). -/
def exec_bit_7_l (s : State) : Result := .next (s.bitReg 7 .l)

/-- `BIT 7,A` (R281). -/
def exec_bit_7_a (s : State) : Result := .next (s.bitReg 7 .a)

/-- `BIT 7,(HL)` (R282). -/
def exec_bit_7_atHL (s : State) : Result := .next (s.bitMem 7)

/-- `RES 0,B` (R283). -/
def exec_res_0_b (s : State) : Result := .next (s.resReg 0 .b)

/-- `RES 0,C` (R283). -/
def exec_res_0_c (s : State) : Result := .next (s.resReg 0 .c)

/-- `RES 0,D` (R283). -/
def exec_res_0_d (s : State) : Result := .next (s.resReg 0 .d)

/-- `RES 0,E` (R283). -/
def exec_res_0_e (s : State) : Result := .next (s.resReg 0 .e)

/-- `RES 0,H` (R283). -/
def exec_res_0_h (s : State) : Result := .next (s.resReg 0 .h)

/-- `RES 0,L` (R283). -/
def exec_res_0_l (s : State) : Result := .next (s.resReg 0 .l)

/-- `RES 0,A` (R283). -/
def exec_res_0_a (s : State) : Result := .next (s.resReg 0 .a)

/-- `RES 0,(HL)` (R284). -/
def exec_res_0_atHL (s : State) : Result := .next (s.resMem 0)

/-- `RES 1,B` (R283). -/
def exec_res_1_b (s : State) : Result := .next (s.resReg 1 .b)

/-- `RES 1,C` (R283). -/
def exec_res_1_c (s : State) : Result := .next (s.resReg 1 .c)

/-- `RES 1,D` (R283). -/
def exec_res_1_d (s : State) : Result := .next (s.resReg 1 .d)

/-- `RES 1,E` (R283). -/
def exec_res_1_e (s : State) : Result := .next (s.resReg 1 .e)

/-- `RES 1,H` (R283). -/
def exec_res_1_h (s : State) : Result := .next (s.resReg 1 .h)

/-- `RES 1,L` (R283). -/
def exec_res_1_l (s : State) : Result := .next (s.resReg 1 .l)

/-- `RES 1,A` (R283). -/
def exec_res_1_a (s : State) : Result := .next (s.resReg 1 .a)

/-- `RES 1,(HL)` (R284). -/
def exec_res_1_atHL (s : State) : Result := .next (s.resMem 1)

/-- `RES 2,B` (R283). -/
def exec_res_2_b (s : State) : Result := .next (s.resReg 2 .b)

/-- `RES 2,C` (R283). -/
def exec_res_2_c (s : State) : Result := .next (s.resReg 2 .c)

/-- `RES 2,D` (R283). -/
def exec_res_2_d (s : State) : Result := .next (s.resReg 2 .d)

/-- `RES 2,E` (R283). -/
def exec_res_2_e (s : State) : Result := .next (s.resReg 2 .e)

/-- `RES 2,H` (R283). -/
def exec_res_2_h (s : State) : Result := .next (s.resReg 2 .h)

/-- `RES 2,L` (R283). -/
def exec_res_2_l (s : State) : Result := .next (s.resReg 2 .l)

/-- `RES 2,A` (R283). -/
def exec_res_2_a (s : State) : Result := .next (s.resReg 2 .a)

/-- `RES 2,(HL)` (R284). -/
def exec_res_2_atHL (s : State) : Result := .next (s.resMem 2)

/-- `RES 3,B` (R283). -/
def exec_res_3_b (s : State) : Result := .next (s.resReg 3 .b)

/-- `RES 3,C` (R283). -/
def exec_res_3_c (s : State) : Result := .next (s.resReg 3 .c)

/-- `RES 3,D` (R283). -/
def exec_res_3_d (s : State) : Result := .next (s.resReg 3 .d)

/-- `RES 3,E` (R283). -/
def exec_res_3_e (s : State) : Result := .next (s.resReg 3 .e)

/-- `RES 3,H` (R283). -/
def exec_res_3_h (s : State) : Result := .next (s.resReg 3 .h)

/-- `RES 3,L` (R283). -/
def exec_res_3_l (s : State) : Result := .next (s.resReg 3 .l)

/-- `RES 3,A` (R283). -/
def exec_res_3_a (s : State) : Result := .next (s.resReg 3 .a)

/-- `RES 3,(HL)` (R284). -/
def exec_res_3_atHL (s : State) : Result := .next (s.resMem 3)

/-- `RES 4,B` (R283). -/
def exec_res_4_b (s : State) : Result := .next (s.resReg 4 .b)

/-- `RES 4,C` (R283). -/
def exec_res_4_c (s : State) : Result := .next (s.resReg 4 .c)

/-- `RES 4,D` (R283). -/
def exec_res_4_d (s : State) : Result := .next (s.resReg 4 .d)

/-- `RES 4,E` (R283). -/
def exec_res_4_e (s : State) : Result := .next (s.resReg 4 .e)

/-- `RES 4,H` (R283). -/
def exec_res_4_h (s : State) : Result := .next (s.resReg 4 .h)

/-- `RES 4,L` (R283). -/
def exec_res_4_l (s : State) : Result := .next (s.resReg 4 .l)

/-- `RES 4,A` (R283). -/
def exec_res_4_a (s : State) : Result := .next (s.resReg 4 .a)

/-- `RES 4,(HL)` (R284). -/
def exec_res_4_atHL (s : State) : Result := .next (s.resMem 4)

/-- `RES 5,B` (R283). -/
def exec_res_5_b (s : State) : Result := .next (s.resReg 5 .b)

/-- `RES 5,C` (R283). -/
def exec_res_5_c (s : State) : Result := .next (s.resReg 5 .c)

/-- `RES 5,D` (R283). -/
def exec_res_5_d (s : State) : Result := .next (s.resReg 5 .d)

/-- `RES 5,E` (R283). -/
def exec_res_5_e (s : State) : Result := .next (s.resReg 5 .e)

/-- `RES 5,H` (R283). -/
def exec_res_5_h (s : State) : Result := .next (s.resReg 5 .h)

/-- `RES 5,L` (R283). -/
def exec_res_5_l (s : State) : Result := .next (s.resReg 5 .l)

/-- `RES 5,A` (R283). -/
def exec_res_5_a (s : State) : Result := .next (s.resReg 5 .a)

/-- `RES 5,(HL)` (R284). -/
def exec_res_5_atHL (s : State) : Result := .next (s.resMem 5)

/-- `RES 6,B` (R283). -/
def exec_res_6_b (s : State) : Result := .next (s.resReg 6 .b)

/-- `RES 6,C` (R283). -/
def exec_res_6_c (s : State) : Result := .next (s.resReg 6 .c)

/-- `RES 6,D` (R283). -/
def exec_res_6_d (s : State) : Result := .next (s.resReg 6 .d)

/-- `RES 6,E` (R283). -/
def exec_res_6_e (s : State) : Result := .next (s.resReg 6 .e)

/-- `RES 6,H` (R283). -/
def exec_res_6_h (s : State) : Result := .next (s.resReg 6 .h)

/-- `RES 6,L` (R283). -/
def exec_res_6_l (s : State) : Result := .next (s.resReg 6 .l)

/-- `RES 6,A` (R283). -/
def exec_res_6_a (s : State) : Result := .next (s.resReg 6 .a)

/-- `RES 6,(HL)` (R284). -/
def exec_res_6_atHL (s : State) : Result := .next (s.resMem 6)

/-- `RES 7,B` (R283). -/
def exec_res_7_b (s : State) : Result := .next (s.resReg 7 .b)

/-- `RES 7,C` (R283). -/
def exec_res_7_c (s : State) : Result := .next (s.resReg 7 .c)

/-- `RES 7,D` (R283). -/
def exec_res_7_d (s : State) : Result := .next (s.resReg 7 .d)

/-- `RES 7,E` (R283). -/
def exec_res_7_e (s : State) : Result := .next (s.resReg 7 .e)

/-- `RES 7,H` (R283). -/
def exec_res_7_h (s : State) : Result := .next (s.resReg 7 .h)

/-- `RES 7,L` (R283). -/
def exec_res_7_l (s : State) : Result := .next (s.resReg 7 .l)

/-- `RES 7,A` (R283). -/
def exec_res_7_a (s : State) : Result := .next (s.resReg 7 .a)

/-- `RES 7,(HL)` (R284). -/
def exec_res_7_atHL (s : State) : Result := .next (s.resMem 7)

/-- `SET 0,B` (R285). -/
def exec_set_0_b (s : State) : Result := .next (s.setBitReg 0 .b)

/-- `SET 0,C` (R285). -/
def exec_set_0_c (s : State) : Result := .next (s.setBitReg 0 .c)

/-- `SET 0,D` (R285). -/
def exec_set_0_d (s : State) : Result := .next (s.setBitReg 0 .d)

/-- `SET 0,E` (R285). -/
def exec_set_0_e (s : State) : Result := .next (s.setBitReg 0 .e)

/-- `SET 0,H` (R285). -/
def exec_set_0_h (s : State) : Result := .next (s.setBitReg 0 .h)

/-- `SET 0,L` (R285). -/
def exec_set_0_l (s : State) : Result := .next (s.setBitReg 0 .l)

/-- `SET 0,A` (R285). -/
def exec_set_0_a (s : State) : Result := .next (s.setBitReg 0 .a)

/-- `SET 0,(HL)` (R286). -/
def exec_set_0_atHL (s : State) : Result := .next (s.setBitMem 0)

/-- `SET 1,B` (R285). -/
def exec_set_1_b (s : State) : Result := .next (s.setBitReg 1 .b)

/-- `SET 1,C` (R285). -/
def exec_set_1_c (s : State) : Result := .next (s.setBitReg 1 .c)

/-- `SET 1,D` (R285). -/
def exec_set_1_d (s : State) : Result := .next (s.setBitReg 1 .d)

/-- `SET 1,E` (R285). -/
def exec_set_1_e (s : State) : Result := .next (s.setBitReg 1 .e)

/-- `SET 1,H` (R285). -/
def exec_set_1_h (s : State) : Result := .next (s.setBitReg 1 .h)

/-- `SET 1,L` (R285). -/
def exec_set_1_l (s : State) : Result := .next (s.setBitReg 1 .l)

/-- `SET 1,A` (R285). -/
def exec_set_1_a (s : State) : Result := .next (s.setBitReg 1 .a)

/-- `SET 1,(HL)` (R286). -/
def exec_set_1_atHL (s : State) : Result := .next (s.setBitMem 1)

/-- `SET 2,B` (R285). -/
def exec_set_2_b (s : State) : Result := .next (s.setBitReg 2 .b)

/-- `SET 2,C` (R285). -/
def exec_set_2_c (s : State) : Result := .next (s.setBitReg 2 .c)

/-- `SET 2,D` (R285). -/
def exec_set_2_d (s : State) : Result := .next (s.setBitReg 2 .d)

/-- `SET 2,E` (R285). -/
def exec_set_2_e (s : State) : Result := .next (s.setBitReg 2 .e)

/-- `SET 2,H` (R285). -/
def exec_set_2_h (s : State) : Result := .next (s.setBitReg 2 .h)

/-- `SET 2,L` (R285). -/
def exec_set_2_l (s : State) : Result := .next (s.setBitReg 2 .l)

/-- `SET 2,A` (R285). -/
def exec_set_2_a (s : State) : Result := .next (s.setBitReg 2 .a)

/-- `SET 2,(HL)` (R286). -/
def exec_set_2_atHL (s : State) : Result := .next (s.setBitMem 2)

/-- `SET 3,B` (R285). -/
def exec_set_3_b (s : State) : Result := .next (s.setBitReg 3 .b)

/-- `SET 3,C` (R285). -/
def exec_set_3_c (s : State) : Result := .next (s.setBitReg 3 .c)

/-- `SET 3,D` (R285). -/
def exec_set_3_d (s : State) : Result := .next (s.setBitReg 3 .d)

/-- `SET 3,E` (R285). -/
def exec_set_3_e (s : State) : Result := .next (s.setBitReg 3 .e)

/-- `SET 3,H` (R285). -/
def exec_set_3_h (s : State) : Result := .next (s.setBitReg 3 .h)

/-- `SET 3,L` (R285). -/
def exec_set_3_l (s : State) : Result := .next (s.setBitReg 3 .l)

/-- `SET 3,A` (R285). -/
def exec_set_3_a (s : State) : Result := .next (s.setBitReg 3 .a)

/-- `SET 3,(HL)` (R286). -/
def exec_set_3_atHL (s : State) : Result := .next (s.setBitMem 3)

/-- `SET 4,B` (R285). -/
def exec_set_4_b (s : State) : Result := .next (s.setBitReg 4 .b)

/-- `SET 4,C` (R285). -/
def exec_set_4_c (s : State) : Result := .next (s.setBitReg 4 .c)

/-- `SET 4,D` (R285). -/
def exec_set_4_d (s : State) : Result := .next (s.setBitReg 4 .d)

/-- `SET 4,E` (R285). -/
def exec_set_4_e (s : State) : Result := .next (s.setBitReg 4 .e)

/-- `SET 4,H` (R285). -/
def exec_set_4_h (s : State) : Result := .next (s.setBitReg 4 .h)

/-- `SET 4,L` (R285). -/
def exec_set_4_l (s : State) : Result := .next (s.setBitReg 4 .l)

/-- `SET 4,A` (R285). -/
def exec_set_4_a (s : State) : Result := .next (s.setBitReg 4 .a)

/-- `SET 4,(HL)` (R286). -/
def exec_set_4_atHL (s : State) : Result := .next (s.setBitMem 4)

/-- `SET 5,B` (R285). -/
def exec_set_5_b (s : State) : Result := .next (s.setBitReg 5 .b)

/-- `SET 5,C` (R285). -/
def exec_set_5_c (s : State) : Result := .next (s.setBitReg 5 .c)

/-- `SET 5,D` (R285). -/
def exec_set_5_d (s : State) : Result := .next (s.setBitReg 5 .d)

/-- `SET 5,E` (R285). -/
def exec_set_5_e (s : State) : Result := .next (s.setBitReg 5 .e)

/-- `SET 5,H` (R285). -/
def exec_set_5_h (s : State) : Result := .next (s.setBitReg 5 .h)

/-- `SET 5,L` (R285). -/
def exec_set_5_l (s : State) : Result := .next (s.setBitReg 5 .l)

/-- `SET 5,A` (R285). -/
def exec_set_5_a (s : State) : Result := .next (s.setBitReg 5 .a)

/-- `SET 5,(HL)` (R286). -/
def exec_set_5_atHL (s : State) : Result := .next (s.setBitMem 5)

/-- `SET 6,B` (R285). -/
def exec_set_6_b (s : State) : Result := .next (s.setBitReg 6 .b)

/-- `SET 6,C` (R285). -/
def exec_set_6_c (s : State) : Result := .next (s.setBitReg 6 .c)

/-- `SET 6,D` (R285). -/
def exec_set_6_d (s : State) : Result := .next (s.setBitReg 6 .d)

/-- `SET 6,E` (R285). -/
def exec_set_6_e (s : State) : Result := .next (s.setBitReg 6 .e)

/-- `SET 6,H` (R285). -/
def exec_set_6_h (s : State) : Result := .next (s.setBitReg 6 .h)

/-- `SET 6,L` (R285). -/
def exec_set_6_l (s : State) : Result := .next (s.setBitReg 6 .l)

/-- `SET 6,A` (R285). -/
def exec_set_6_a (s : State) : Result := .next (s.setBitReg 6 .a)

/-- `SET 6,(HL)` (R286). -/
def exec_set_6_atHL (s : State) : Result := .next (s.setBitMem 6)

/-- `SET 7,B` (R285). -/
def exec_set_7_b (s : State) : Result := .next (s.setBitReg 7 .b)

/-- `SET 7,C` (R285). -/
def exec_set_7_c (s : State) : Result := .next (s.setBitReg 7 .c)

/-- `SET 7,D` (R285). -/
def exec_set_7_d (s : State) : Result := .next (s.setBitReg 7 .d)

/-- `SET 7,E` (R285). -/
def exec_set_7_e (s : State) : Result := .next (s.setBitReg 7 .e)

/-- `SET 7,H` (R285). -/
def exec_set_7_h (s : State) : Result := .next (s.setBitReg 7 .h)

/-- `SET 7,L` (R285). -/
def exec_set_7_l (s : State) : Result := .next (s.setBitReg 7 .l)

/-- `SET 7,A` (R285). -/
def exec_set_7_a (s : State) : Result := .next (s.setBitReg 7 .a)

/-- `SET 7,(HL)` (R286). -/
def exec_set_7_atHL (s : State) : Result := .next (s.setBitMem 7)

end Sys2Proof.Machine
end

