-- ==== Sys2Proof/Machine/CpuControl.lean ====
section
/-! DEFINITION. NOP, HALT, STOP, DI, EI, the CB prefix and the illegal bytes (46_cpu_control.md R320 to R326). -/

namespace Sys2Proof.Machine

open Sys2Proof

/-- The instruction of the CB row `op2`, by its fields (30_encoding.md R131). -/
def State.cb (s : State) (op2 : Byte) : State :=
  match fieldX op2, regOf (fieldZ op2) with
  | 0, some r => s.rotReg (rotOf (fieldY op2)) r
  | 0, none => s.rotMem (rotOf (fieldY op2))
  | 1, some r => s.bitReg (fieldY op2) r
  | 1, none => s.bitMem (fieldY op2)
  | 2, some r => s.resReg (fieldY op2) r
  | 2, none => s.resMem (fieldY op2)
  | 3, some r => s.setBitReg (fieldY op2) r
  | 3, none => s.setBitMem (fieldY op2)

/-- HALT: the HALT-bug latch where IME is clear and an enabled interrupt is pending, else the halt (R321). -/
def State.halt (s : State) : State :=
  if s.cpu.ime = false ∧ s.pending ≠ 0 then { s with cpu.haltBug := true } else { s with cpu.halted := true }

/-- STOP by `STOP_MODE`; its second byte has been fetched and counts for nothing (R322; log entries 1 and 7). -/
def State.stop (s : State) : State :=
  match s.cfg.stopMode with
  | .nop2 => s
  | .refuse => s.refuseStop

/-- `NOP` (R320). -/
def exec_nop (s : State) : Result := .next (s)

/-- `HALT` (R321). -/
def exec_halt (s : State) : Result := .next (s.halt)

/-- `STOP` (R322). -/
def exec_stop (_v : Byte) (s : State) : Result := .next (s.stop)

/-- `DI` (R323). -/
def exec_di (s : State) : Result := .next ({ s with cpu.ime := false, cpu.imePending := false })

/-- `EI` (R324).  IME itself is not written. -/
def exec_ei (s : State) : Result := .next ({ s with cpu.imePending := true })

/-- `PREFIX CB` (R325). -/
def exec_prefixCB (op2 : Byte) (s : State) : Result := .next (s.cb op2)

/-- The illegal byte 0xD3 (R326). -/
def exec_illegal_d3 (s : State) : Result := .next (s.raiseIllegal 0xD3)

/-- The illegal byte 0xDB (R326). -/
def exec_illegal_db (s : State) : Result := .next (s.raiseIllegal 0xDB)

/-- The illegal byte 0xDD (R326). -/
def exec_illegal_dd (s : State) : Result := .next (s.raiseIllegal 0xDD)

/-- The illegal byte 0xE3 (R326). -/
def exec_illegal_e3 (s : State) : Result := .next (s.raiseIllegal 0xE3)

/-- The illegal byte 0xE4 (R326). -/
def exec_illegal_e4 (s : State) : Result := .next (s.raiseIllegal 0xE4)

/-- The illegal byte 0xEB (R326). -/
def exec_illegal_eb (s : State) : Result := .next (s.raiseIllegal 0xEB)

/-- The illegal byte 0xEC (R326). -/
def exec_illegal_ec (s : State) : Result := .next (s.raiseIllegal 0xEC)

/-- The illegal byte 0xED (R326). -/
def exec_illegal_ed (s : State) : Result := .next (s.raiseIllegal 0xED)

/-- The illegal byte 0xF4 (R326). -/
def exec_illegal_f4 (s : State) : Result := .next (s.raiseIllegal 0xF4)

/-- The illegal byte 0xFC (R326). -/
def exec_illegal_fc (s : State) : Result := .next (s.raiseIllegal 0xFC)

/-- The illegal byte 0xFD (R326). -/
def exec_illegal_fd (s : State) : Result := .next (s.raiseIllegal 0xFD)

end Sys2Proof.Machine
end

