-- ==== Sys2Proof/Machine/Load16.lean ====
section
/-! DEFINITION. The 16-bit loads and the stack instructions (41_load16_stack.md R180 to R188). -/

namespace Sys2Proof.Machine

open Sys2Proof

/-- PUSH: the pair pushed, then 4 internal T-cycles (R184). -/
def State.pushPair (s : State) (p : StackPair) : State := (s.push16 (s.cpu.stackPair p)).advance 4

/-- POP: the word popped into the pair (R186, R187). -/
def State.popPair (s : State) (p : StackPair) : State := { s.pop16.2 with cpu := s.pop16.2.cpu.setStackPair p s.pop16.1 }

/-- `LD BC,d16` (R180). -/
def exec_ld_bc_d16 (v : Word) (s : State) : Result := .next (s.setPair .bc v)

/-- `LD DE,d16` (R180). -/
def exec_ld_de_d16 (v : Word) (s : State) : Result := .next (s.setPair .de v)

/-- `LD HL,d16` (R180). -/
def exec_ld_hl_d16 (v : Word) (s : State) : Result := .next (s.setPair .hl v)

/-- `LD SP,d16` (R180). -/
def exec_ld_sp_d16 (v : Word) (s : State) : Result := .next (s.setPair .sp v)

/-- `LD (a16),SP` (R181). -/
def exec_ld_atA16_sp (a : Word) (s : State) : Result :=
  .next ((s.memWrite a (loByte s.cpu.sp)).memWrite (a + 1) (hiByte s.cpu.sp))

/-- `LD SP,HL` (R182). -/
def exec_ld_sp_hl (s : State) : Result := .next ((s.setSp s.hl).advance 4)

/-- `LD HL,SP+e8` (R183). -/
def exec_ld_hl_spE8 (e : Byte) (s : State) : Result :=
  .next (((s.setPair .hl (addSpFlags s.cpu.sp e).1).setFlags (addSpFlags s.cpu.sp e).2).advance 4)

/-- `PUSH BC` (R184). -/
def exec_push_bc (s : State) : Result := .next (s.pushPair .bc)

/-- `PUSH DE` (R184). -/
def exec_push_de (s : State) : Result := .next (s.pushPair .de)

/-- `PUSH HL` (R184). -/
def exec_push_hl (s : State) : Result := .next (s.pushPair .hl)

/-- `PUSH AF` (R185). -/
def exec_push_af (s : State) : Result := .next (s.pushPair .af)

/-- `POP BC` (R187). -/
def exec_pop_bc (s : State) : Result := .next (s.popPair .bc)

/-- `POP DE` (R187). -/
def exec_pop_de (s : State) : Result := .next (s.popPair .de)

/-- `POP HL` (R187). -/
def exec_pop_hl (s : State) : Result := .next (s.popPair .hl)

/-- `POP AF` (R186). -/
def exec_pop_af (s : State) : Result := .next (s.popPair .af)

end Sys2Proof.Machine
end

