-- ==== Sys2Proof/Machine/Load8.lean ====
section
/-! DEFINITION. The 8-bit loads (40_load8.md R150 to R169). -/

namespace Sys2Proof.Machine

open Sys2Proof

/-- A load of register `r` from address `a` (R169). -/
def State.loadReg (s : State) (r : Reg) (a : Word) : State := (s.memRead a).2.setReg r (s.memRead a).1

/-- A store of register `r` at address `a` (R169). -/
def State.storeReg (s : State) (r : Reg) (a : Word) : State := s.memWrite a (s.reg r)

/-- `LD B,B` (R150). -/
def exec_ld_b_b (s : State) : Result := .next (s.setReg .b (s.reg .b))

/-- `LD B,C` (R150). -/
def exec_ld_b_c (s : State) : Result := .next (s.setReg .b (s.reg .c))

/-- `LD B,D` (R150). -/
def exec_ld_b_d (s : State) : Result := .next (s.setReg .b (s.reg .d))

/-- `LD B,E` (R150). -/
def exec_ld_b_e (s : State) : Result := .next (s.setReg .b (s.reg .e))

/-- `LD B,H` (R150). -/
def exec_ld_b_h (s : State) : Result := .next (s.setReg .b (s.reg .h))

/-- `LD B,L` (R150). -/
def exec_ld_b_l (s : State) : Result := .next (s.setReg .b (s.reg .l))

/-- `LD B,A` (R150). -/
def exec_ld_b_a (s : State) : Result := .next (s.setReg .b (s.reg .a))

/-- `LD C,B` (R150). -/
def exec_ld_c_b (s : State) : Result := .next (s.setReg .c (s.reg .b))

/-- `LD C,C` (R150). -/
def exec_ld_c_c (s : State) : Result := .next (s.setReg .c (s.reg .c))

/-- `LD C,D` (R150). -/
def exec_ld_c_d (s : State) : Result := .next (s.setReg .c (s.reg .d))

/-- `LD C,E` (R150). -/
def exec_ld_c_e (s : State) : Result := .next (s.setReg .c (s.reg .e))

/-- `LD C,H` (R150). -/
def exec_ld_c_h (s : State) : Result := .next (s.setReg .c (s.reg .h))

/-- `LD C,L` (R150). -/
def exec_ld_c_l (s : State) : Result := .next (s.setReg .c (s.reg .l))

/-- `LD C,A` (R150). -/
def exec_ld_c_a (s : State) : Result := .next (s.setReg .c (s.reg .a))

/-- `LD D,B` (R150). -/
def exec_ld_d_b (s : State) : Result := .next (s.setReg .d (s.reg .b))

/-- `LD D,C` (R150). -/
def exec_ld_d_c (s : State) : Result := .next (s.setReg .d (s.reg .c))

/-- `LD D,D` (R150). -/
def exec_ld_d_d (s : State) : Result := .next (s.setReg .d (s.reg .d))

/-- `LD D,E` (R150). -/
def exec_ld_d_e (s : State) : Result := .next (s.setReg .d (s.reg .e))

/-- `LD D,H` (R150). -/
def exec_ld_d_h (s : State) : Result := .next (s.setReg .d (s.reg .h))

/-- `LD D,L` (R150). -/
def exec_ld_d_l (s : State) : Result := .next (s.setReg .d (s.reg .l))

/-- `LD D,A` (R150). -/
def exec_ld_d_a (s : State) : Result := .next (s.setReg .d (s.reg .a))

/-- `LD E,B` (R150). -/
def exec_ld_e_b (s : State) : Result := .next (s.setReg .e (s.reg .b))

/-- `LD E,C` (R150). -/
def exec_ld_e_c (s : State) : Result := .next (s.setReg .e (s.reg .c))

/-- `LD E,D` (R150). -/
def exec_ld_e_d (s : State) : Result := .next (s.setReg .e (s.reg .d))

/-- `LD E,E` (R150). -/
def exec_ld_e_e (s : State) : Result := .next (s.setReg .e (s.reg .e))

/-- `LD E,H` (R150). -/
def exec_ld_e_h (s : State) : Result := .next (s.setReg .e (s.reg .h))

/-- `LD E,L` (R150). -/
def exec_ld_e_l (s : State) : Result := .next (s.setReg .e (s.reg .l))

/-- `LD E,A` (R150). -/
def exec_ld_e_a (s : State) : Result := .next (s.setReg .e (s.reg .a))

/-- `LD H,B` (R150). -/
def exec_ld_h_b (s : State) : Result := .next (s.setReg .h (s.reg .b))

/-- `LD H,C` (R150). -/
def exec_ld_h_c (s : State) : Result := .next (s.setReg .h (s.reg .c))

/-- `LD H,D` (R150). -/
def exec_ld_h_d (s : State) : Result := .next (s.setReg .h (s.reg .d))

/-- `LD H,E` (R150). -/
def exec_ld_h_e (s : State) : Result := .next (s.setReg .h (s.reg .e))

/-- `LD H,H` (R150). -/
def exec_ld_h_h (s : State) : Result := .next (s.setReg .h (s.reg .h))

/-- `LD H,L` (R150). -/
def exec_ld_h_l (s : State) : Result := .next (s.setReg .h (s.reg .l))

/-- `LD H,A` (R150). -/
def exec_ld_h_a (s : State) : Result := .next (s.setReg .h (s.reg .a))

/-- `LD L,B` (R150). -/
def exec_ld_l_b (s : State) : Result := .next (s.setReg .l (s.reg .b))

/-- `LD L,C` (R150). -/
def exec_ld_l_c (s : State) : Result := .next (s.setReg .l (s.reg .c))

/-- `LD L,D` (R150). -/
def exec_ld_l_d (s : State) : Result := .next (s.setReg .l (s.reg .d))

/-- `LD L,E` (R150). -/
def exec_ld_l_e (s : State) : Result := .next (s.setReg .l (s.reg .e))

/-- `LD L,H` (R150). -/
def exec_ld_l_h (s : State) : Result := .next (s.setReg .l (s.reg .h))

/-- `LD L,L` (R150). -/
def exec_ld_l_l (s : State) : Result := .next (s.setReg .l (s.reg .l))

/-- `LD L,A` (R150). -/
def exec_ld_l_a (s : State) : Result := .next (s.setReg .l (s.reg .a))

/-- `LD A,B` (R150). -/
def exec_ld_a_b (s : State) : Result := .next (s.setReg .a (s.reg .b))

/-- `LD A,C` (R150). -/
def exec_ld_a_c (s : State) : Result := .next (s.setReg .a (s.reg .c))

/-- `LD A,D` (R150). -/
def exec_ld_a_d (s : State) : Result := .next (s.setReg .a (s.reg .d))

/-- `LD A,E` (R150). -/
def exec_ld_a_e (s : State) : Result := .next (s.setReg .a (s.reg .e))

/-- `LD A,H` (R150). -/
def exec_ld_a_h (s : State) : Result := .next (s.setReg .a (s.reg .h))

/-- `LD A,L` (R150). -/
def exec_ld_a_l (s : State) : Result := .next (s.setReg .a (s.reg .l))

/-- `LD A,A` (R150). -/
def exec_ld_a_a (s : State) : Result := .next (s.setReg .a (s.reg .a))

/-- `LD B,d8` (R151). -/
def exec_ld_b_d8 (v : Byte) (s : State) : Result := .next (s.setReg .b v)

/-- `LD C,d8` (R151). -/
def exec_ld_c_d8 (v : Byte) (s : State) : Result := .next (s.setReg .c v)

/-- `LD D,d8` (R151). -/
def exec_ld_d_d8 (v : Byte) (s : State) : Result := .next (s.setReg .d v)

/-- `LD E,d8` (R151). -/
def exec_ld_e_d8 (v : Byte) (s : State) : Result := .next (s.setReg .e v)

/-- `LD H,d8` (R151). -/
def exec_ld_h_d8 (v : Byte) (s : State) : Result := .next (s.setReg .h v)

/-- `LD L,d8` (R151). -/
def exec_ld_l_d8 (v : Byte) (s : State) : Result := .next (s.setReg .l v)

/-- `LD A,d8` (R151). -/
def exec_ld_a_d8 (v : Byte) (s : State) : Result := .next (s.setReg .a v)

/-- `LD B,(HL)` (R152). -/
def exec_ld_b_atHL (s : State) : Result := .next (s.loadReg .b s.hl)

/-- `LD C,(HL)` (R152). -/
def exec_ld_c_atHL (s : State) : Result := .next (s.loadReg .c s.hl)

/-- `LD D,(HL)` (R152). -/
def exec_ld_d_atHL (s : State) : Result := .next (s.loadReg .d s.hl)

/-- `LD E,(HL)` (R152). -/
def exec_ld_e_atHL (s : State) : Result := .next (s.loadReg .e s.hl)

/-- `LD H,(HL)` (R152). -/
def exec_ld_h_atHL (s : State) : Result := .next (s.loadReg .h s.hl)

/-- `LD L,(HL)` (R152). -/
def exec_ld_l_atHL (s : State) : Result := .next (s.loadReg .l s.hl)

/-- `LD A,(HL)` (R152). -/
def exec_ld_a_atHL (s : State) : Result := .next (s.loadReg .a s.hl)

/-- `LD (HL),B` (R153). -/
def exec_ld_atHL_b (s : State) : Result := .next (s.storeReg .b s.hl)

/-- `LD (HL),C` (R153). -/
def exec_ld_atHL_c (s : State) : Result := .next (s.storeReg .c s.hl)

/-- `LD (HL),D` (R153). -/
def exec_ld_atHL_d (s : State) : Result := .next (s.storeReg .d s.hl)

/-- `LD (HL),E` (R153). -/
def exec_ld_atHL_e (s : State) : Result := .next (s.storeReg .e s.hl)

/-- `LD (HL),H` (R153). -/
def exec_ld_atHL_h (s : State) : Result := .next (s.storeReg .h s.hl)

/-- `LD (HL),L` (R153). -/
def exec_ld_atHL_l (s : State) : Result := .next (s.storeReg .l s.hl)

/-- `LD (HL),A` (R153). -/
def exec_ld_atHL_a (s : State) : Result := .next (s.storeReg .a s.hl)

/-- `LD (HL),d8` (R154). -/
def exec_ld_atHL_d8 (v : Byte) (s : State) : Result := .next (s.memWrite s.hl v)

/-- `LD A,(BC)` (R155). -/
def exec_ld_a_atBC (s : State) : Result := .next (s.loadReg .a (s.pair .bc))

/-- `LD A,(DE)` (R156). -/
def exec_ld_a_atDE (s : State) : Result := .next (s.loadReg .a (s.pair .de))

/-- `LD (BC),A` (R157). -/
def exec_ld_atBC_a (s : State) : Result := .next (s.storeReg .a (s.pair .bc))

/-- `LD (DE),A` (R158). -/
def exec_ld_atDE_a (s : State) : Result := .next (s.storeReg .a (s.pair .de))

/-- `LD A,(a16)` (R159). -/
def exec_ld_a_atA16 (a : Word) (s : State) : Result := .next (s.loadReg .a a)

/-- `LD (a16),A` (R160). -/
def exec_ld_atA16_a (a : Word) (s : State) : Result := .next (s.storeReg .a a)

/-- `LDH A,(C)` (R161). -/
def exec_ldh_a_atC (s : State) : Result := .next (s.loadReg .a (highPage (s.reg .c)))

/-- `LDH (C),A` (R162). -/
def exec_ldh_atC_a (s : State) : Result := .next (s.storeReg .a (highPage (s.reg .c)))

/-- `LDH A,(a8)` (R163). -/
def exec_ldh_a_atA8 (n : Byte) (s : State) : Result := .next (s.loadReg .a (highPage n))

/-- `LDH (a8),A` (R164). -/
def exec_ldh_atA8_a (n : Byte) (s : State) : Result := .next (s.storeReg .a (highPage n))

/-- `LD A,(HL-)` (R165). -/
def exec_ld_a_atHLdec (s : State) : Result := .next ((s.loadReg .a s.hl).setPair .hl (s.hl - 1))

/-- `LD (HL-),A` (R166). -/
def exec_ld_atHLdec_a (s : State) : Result := .next ((s.storeReg .a s.hl).setPair .hl (s.hl - 1))

/-- `LD A,(HL+)` (R167). -/
def exec_ld_a_atHLinc (s : State) : Result := .next ((s.loadReg .a s.hl).setPair .hl (s.hl + 1))

/-- `LD (HL+),A` (R168). -/
def exec_ld_atHLinc_a (s : State) : Result := .next ((s.storeReg .a s.hl).setPair .hl (s.hl + 1))

end Sys2Proof.Machine
end

