-- ==== Sys2Proof/Machine/Fetch.lean ====
section
/-! DEFINITION. The parts of a step around an instruction's meaning: fetching it, waking, choosing the interrupt, the EI
latch (30_encoding.md R121, R122; 60_exceptions.md R340 to R350), and placing an instruction where the next step
fetches. -/

namespace Sys2Proof.Machine

open Sys2Proof

/-- `FetchOpcode()`: the HALT-bug latch keeps `pc` on the byte, once (R121); the byte's address is kept as `addr` of
R343. -/
def State.fetchOpcode (s : State) : Byte × State :=
  let r := s.memRead s.cpu.pc
  (r.1, { r.2 with
    cpu.curAddr := s.cpu.pc
    cpu.haltBug := false
    cpu.pc := if s.cpu.haltBug then s.cpu.pc else s.cpu.pc + 1 })

/-- The bytes after the opcode that its length counts, each read by `Imm8()` (R120, R128), and the instruction they
make with it. -/
def State.fetchRest (s : State) (op : Byte) : Instr × State :=
  match instrLength op with
  | 1 => (decodeBytes op 0 0, s)
  | 2 => (decodeBytes op s.imm8.1 0, s.imm8.2)
  | _ => (decodeBytes op s.imm8.1 s.imm8.2.imm8.1, s.imm8.2.imm8.2)

/-- The next instruction and the machine once all its bytes are fetched. -/
def State.fetch (s : State) : Instr × State := s.fetchOpcode.2.fetchRest s.fetchOpcode.1

/-- Wake from HALT where an enabled interrupt is pending, whatever IME is (R341). -/
def State.wake (s : State) : State := if s.pending ≠ 0 then { s with cpu.halted := false } else s

/-- The source that this step services, if any (R340, R350). -/
def State.toService (s : State) : Option Source := if s.cpu.ime then lowestSource s.pending else none

/-- The EI latch transfer at the end of an instruction step; `was` is the latch before the instruction (R346).  The
algorithm of R343 has no exit before it, so it also ends a step that locks or refuses (log entry 8).  A HALT that halts
with IME clear leaves the latch set, and the first instruction after the wake transfers it (R346 (e), decision D19; log
entry 14). -/
def State.transferLatch (s : State) (was : Bool) : State :=
  if was && s.cpu.imePending && (s.cpu.ime || !s.cpu.halted) then
    { s with cpu.ime := true, cpu.imePending := false }
  else s

/-! ## Placing an instruction -/

/-- A byte stored in the cell behind address `a`, ROM included, without any side effect: what loading a program from
outside the machine does (log entry 3).  Addresses with no memory cell behind them are left alone. -/
def State.poke (s : State) (a : Word) (v : Byte) : State :=
  match regionOf a with
  | .rom0 o => { s with mem.rom := Cells.write s.mem.rom o v }
  | .romX o => { s with mem.rom := Cells.write s.mem.rom (mapRomBank s.cfg s.cart * 0x4000 + o) v }
  | .vram o => { s with mem.vram := Cells.write s.mem.vram o v }
  | .ext o =>
    match extTarget s.cfg s.cart o with
    | .ram k => { s with mem.eram := Cells.write s.mem.eram k v }
    | .closed => s
    | .clock _ => s
  | .wram o => { s with mem.wram := Cells.write s.mem.wram o v }
  | .oam o => { s with mem.oam := Cells.write s.mem.oam o v }
  | .hram o => { s with mem.hram := Cells.write s.mem.hram o v }
  | .unmapped => s
  | .io _ => s
  | .ie => s

/-- There is a memory cell behind address `a`. -/
def State.hasCell (s : State) (a : Word) : Bool :=
  match regionOf a with
  | .rom0 _ => true
  | .romX _ => true
  | .vram _ => true
  | .ext o =>
    match extTarget s.cfg s.cart o with
    | .ram _ => true
    | .closed => false
    | .clock _ => false
  | .wram _ => true
  | .oam _ => true
  | .hram _ => true
  | .unmapped => false
  | .io _ => false
  | .ie => false

/-- The state made ready for an instruction step at `pc`: the terminal marks, a halt, the HALT-bug latch and a transfer
that would keep the CPU from fetching are cleared, and IME where an interrupt would be serviced first. -/
def State.readyToFetch (s : State) : State :=
  { s with
    cpu.locked := false
    cpu.refused := false
    cpu.halted := false
    cpu.haltBug := false
    cpu.ime := s.cpu.ime && decide (s.pending = 0)
    cpu.pc := if s.hasCell s.cpu.pc && s.hasCell (s.cpu.pc + 1) && s.hasCell (s.cpu.pc + 2) then s.cpu.pc else 0xC000
    dma.active := false }

/-- The first three of `bytes` stored at `pc`, `pc + 1`, `pc + 2`. -/
def State.pokeBytes (s : State) (bytes : List Byte) : State :=
  ((s.poke s.cpu.pc (bytes.getD 0 0)).poke (s.cpu.pc + 1) (bytes.getD 1 0)).poke (s.cpu.pc + 2) (bytes.getD 2 0)

end Sys2Proof.Machine
end

