-- ==== Sys2Proof/Machine/Run.lean ====
section
/-! DEFINITION. The instruction step (60_exceptions.md R343). -/

namespace Sys2Proof.Machine

open Sys2Proof

/-- `InstructionStep()`: the instruction is fetched, executed to completion with its internal T-cycles paid at the end
of its meaning (R344), and the EI latch is transferred where R346 says so. -/
def instructionStep (s : State) : Result :=
  match exec s.fetch.1 s.fetch.2 with
  | .next u => .next (u.transferLatch s.cpu.imePending)
  | .fault f => .fault f
  | .refused r => .refused r

/-- The part of `Step()` after the wake: an interrupt service, an idle step of 4 T-cycles, or an instruction step
(R340, R342). -/
def serviceOrRun (s : State) : Result :=
  match s.toService with
  | some i => .next (s.service i)
  | none => if s.cpu.halted then .next (s.advance 4) else instructionStep s

end Sys2Proof.Machine
end

