-- ==== Sys2Proof/Machine/Step.lean ====
section
/-! DEFINITION. One step of the machine (60_exceptions.md R340), and the placing of an instruction for it. -/

namespace Sys2Proof.Machine

open Sys2Proof

/-- `Step()`: none exists once the CPU is locked or has refused STOP; otherwise the CPU wakes, and then an interrupt is
serviced, an idle step passes, or one whole instruction runs (R340). -/
def step (s : State) : Host.Outcome State Fault Refusal :=
  if s.cpu.locked then .fault .locked
  else if s.cpu.refused then .refused .stopRefused
  else serviceOrRun s.wake

/-- `s` with the table word `w` stored where the next step fetches its instruction, and ready to fetch it.  Where no
memory cell lies behind `pc`, `pc` moves to 0xC000 (log entry 3). -/
def State.withFetchWord (s : State) (nbits w : Nat) : State := s.readyToFetch.pokeBytes (tableBytes nbits w)

end Sys2Proof.Machine
end

