-- ==== Sys2Proof/Machine/HostActions.lean ====
section
/-! DEFINITION. What the host may do and see between steps (60_exceptions.md R372; 61_timer_dma_serial_joypad.md R412). -/

namespace Sys2Proof.Machine

open Sys2Proof

/-- `set_buttons(mask)`: a button going from released to pressed requests the Joypad interrupt, whatever the select
lines hold (R412). -/
def State.setButtons (s : State) (mask : Byte) : State :=
  { s with joypad.buttons := mask, irq := s.irq.requestIf (decide (mask &&& ~~~s.joypad.buttons ≠ 0#8)) .joypad }

/-- The shade of pixel `(x, y)` of the framebuffer (R372, 62_ppu.md R420). -/
def State.shade (s : State) (x y : Nat) : BitVec 2 := Cells.read s.ppu.fb (160 * y + x)

/-- Read and clear `frame_ready` (R372). -/
def State.takeFrame (s : State) : Bool × State := (s.ppu.frameReady, { s with ppu.frameReady := false })

/-- Drain `audio_out`: the samples appended since the last drain (R372, 63_apu.md R500). -/
def State.drainAudio (s : State) : List (Nat × Nat) × State := (s.apu.audioOut, { s with apu.audioOut := [] })

/-- Read `serial_out` (R372, R406). -/
def State.serialOut (s : State) : List Byte := s.serial.out

/-- Read byte `off` of external RAM (R372). -/
def State.eramByte (s : State) (off : Nat) : Byte := Cells.read s.mem.eram off

/-- Replace external RAM as a whole (R372, 20_memory.md R92). -/
def State.replaceEram (s : State) (image : List Host.Cell) : State :=
  { s with mem.eram := Cells.ofList (image.filter fun c => decide (c.1 < s.cfg.ramBanks * 0x2000)) }

/-- Read the fault record, which exists after `locked` or `refused` (R372, R360). -/
def State.faultRecord (s : State) : Option FaultRecord := s.cpu.record

end Sys2Proof.Machine
end

