-- ==== Sys2Proof/Machine/Reset.lean ====
section
/-! DEFINITION. Reset: the construction of the machine from its configuration (70_reset_and_hazards.md R530; 20_memory.md
R84, R85; 10_state.md R52). -/

namespace Sys2Proof.Machine

open Sys2Proof

/-- An image as a memory: the listed bytes whose offset is below `size`. -/
def imageOf (size : Nat) (l : List Host.Cell) : Memory := Cells.ofList (l.filter fun c => decide (c.1 < size))

/-- Byte `off` of the configured ROM image. -/
def Config.romByte (c : Sys2Proof.Config) (off : Nat) : Byte := Cells.read (imageOf c.romLength c.rom) off

/-- The parameters of a valid cartridge, or the configuration fault: the kind, then the ROM size (its code, the image's
length, two banks for kind None), then the RAM size (R84, R85; the order is log entry 9). -/
def Config.params (c : Sys2Proof.Config) : Except Fault Params :=
  match cartKindOf (Config.romByte c 0x147) with
  | none => .error (.badCartridge 0x0147 (Config.romByte c 0x147))
  | some kind =>
    match romBanksOf (Config.romByte c 0x148) with
    | none => .error (.badCartridge 0x0148 (Config.romByte c 0x148))
    | some banks =>
      if c.romLength ≠ banks * 0x4000 ∨ (kind = .none ∧ banks ≠ 2) then
        .error (.badCartridge 0x0148 (Config.romByte c 0x148))
      else
        match ramBanksOf (Config.romByte c 0x149) with
        | none => .error (.badCartridge 0x0149 (Config.romByte c 0x149))
        | some ram =>
          .ok { cartKind := kind, romBanks := banks, ramBanks := ram, stopMode := c.stopMode, mode3Extra := c.mode3Extra,
                samplePeriod := c.samplePeriod }

/-- The memories at reset: the images of the configuration (R52). -/
def Config.memories (c : Sys2Proof.Config) (p : Params) : Mem where
  rom := imageOf c.romLength c.rom
  eram := imageOf (p.ramBanks * 0x2000) c.eramInit
  vram := imageOf 0x2000 c.vramInit
  wram := imageOf 0x2000 c.wramInit
  oam := imageOf 0xA0 c.oamInit
  hram := imageOf 0x7F c.hramInit
  wave := imageOf 0x10 c.waveInit

/-- Reset: the header is validated, then every piece of state takes its reset value; nothing is executed (R530). -/
def powerOn (c : Sys2Proof.Config) : Result :=
  match Config.params c with
  | .error f => .fault f
  | .ok p => .next (State.initial p (Config.memories c p) c.rtcStub)

end Sys2Proof.Machine
end

