-- ==== Sys2Proof/Safety.lean ====
section
/-! DEFINITION. The terms in which statements speak: the invariants of the machine, and what a state owes to the host's
and the bus's view of it. -/

namespace Sys2Proof.Machine

open Sys2Proof

/-- The mode that the position and the length of PixelTransfer give (62_ppu.md R422). -/
def Ppu.modeAt (p : Ppu) : Mode :=
  if 144 ≤ p.ly then .vblank
  else if p.dot < 80 then .oamScan
  else if p.dot < 80 + p.mode3Len then .pixelTransfer
  else .hblank

/-- The PPU's ranges, the form of the framebuffer, and while the LCD is on the mode of R422 (62_ppu.md R420, R422,
R434). -/
structure Ppu.Inv (p : Ppu) : Prop where
  ly          : p.ly < 154
  dot         : p.dot < 456
  mode3Len    : 172 ≤ p.mode3Len ∧ p.mode3Len ≤ 376
  lineSprites : p.lineSprites.length ≤ 10 ∧ ∀ n ∈ p.lineSprites, n < 40
  fbForm      : Cells.wf p.fb = true ∧ Cells.below 23040 p.fb = true
  mode        : p.lcdOn = true → p.mode = p.modeAt
  off         : p.lcdOn = false → p.ly = 0 ∧ p.dot = 0 ∧ p.mode = .hblank ∧ p.statLine = false

/-- The DMA engine's ranges; an active engine has bytes left (10_state.md R46). -/
structure Dma.Inv (d : Dma) : Prop where
  remaining : d.remaining ≤ 160
  sub       : d.sub < 4
  active    : d.active = true → 0 < d.remaining

/-- The APU's ranges (63_apu.md R480 to R483, R478). -/
structure Apu.Inv (a : Apu) : Prop where
  fsCount : a.fsCount < 8192
  fsStep  : a.fsStep < 8
  duty    : a.ch1.dutyPos < 8 ∧ a.ch2.dutyPos < 8
  pulse   : a.ch1.ftimer ≤ 8192 ∧ a.ch2.ftimer ≤ 8192
  wave    : a.ch3.ftimer ≤ 4096 ∧ a.ch3.pos < 32
  lengths : a.ch1.length ≤ 64 ∧ a.ch2.length ≤ 64 ∧ a.ch3.length ≤ 256 ∧ a.ch4.length ≤ 64
  volumes : a.ch1.vol ≤ 15 ∧ a.ch2.vol ≤ 15 ∧ a.ch4.vol ≤ 15
  envs    : a.ch1.envTimer ≤ 8 ∧ a.ch2.envTimer ≤ 8 ∧ a.ch4.envTimer ≤ 8
  sweep   : a.sweep.timer ≤ 8

/-- The bank registers that skip zero never hold it (20_memory.md R88, R89). -/
def Cart.Inv (c : Cart) : Prop := c.romBank5 ≠ 0 ∧ c.romBank7 ≠ 0

/-- Every backing store is in canonical form and inside its region, external RAM included. -/
def State.MemInv (s : State) : Prop := s.mem.wf = true

/-- The terminal marks exclude each other, and each comes with its record (10_state.md R31). -/
structure Cpu.Inv (c : Cpu) : Prop where
  exclusive : ¬(c.locked = true ∧ c.refused = true)
  locked    : c.locked = true → ∃ r, c.record = some r ∧ r.cause = .illegalOpcode ∧ r.addr = c.pc
  refused   : c.refused = true → ∃ r, c.record = some r ∧ r.cause = .stopRefused ∧ r.opcode = 0x10

/-- All of it: what every step keeps. -/
structure State.Inv (s : State) : Prop where
  cpu  : s.cpu.Inv
  mem  : s.MemInv
  ppu  : s.ppu.Inv
  dma  : s.dma.Inv
  apu  : s.apu.Inv
  cart : s.cart.Inv

/-- A step from `s` exists: the CPU is neither locked nor has it refused STOP (60_exceptions.md R340). -/
def State.live (s : State) : Prop := s.cpu.locked = false ∧ s.cpu.refused = false

/-- The next step of `s` is an instruction step: no interrupt is serviced and the CPU is not halted, or wakes
(60_exceptions.md R340, R341). -/
def State.runsInstruction (s : State) : Prop := s.live ∧ s.wake.toService = none ∧ s.wake.cpu.halted = false

/-! ## What an instruction changes -/

/-- `c` with the seven general registers of `d`. -/
def Cpu.withRegsOf (c d : Cpu) : Cpu :=
  { c with a := d.a, b := d.b, c := d.c, d := d.d, e := d.e, h := d.h, l := d.l }

/-- `t` is the machine `u` with the CPU of `s`, where register `r` now holds `v` and the flags are `f`: every other
register, SP, `pc`, IME and the run bits are those of `s`, everything outside the CPU is that of `u`. -/
structure OnlyReg (s u : State) (r : Reg) (v : Byte) (f : Flags) (t : State) : Prop where
  value  : t.reg r = v
  others : ∀ q, q ≠ r → t.reg q = s.reg q
  flags  : t.cpu.f = f
  rest   : t = { u with cpu := { s.cpu.withRegsOf t.cpu with f := t.cpu.f } }

/-- `P` of each of the three operand forms of an ALU operation: the instruction, the operand's value and the machine
once the operand is read. -/
def EachAluForm (o : Alu) (s : State) (P : Instr → Byte → State → Prop) : Prop :=
  (∀ r, P (aluReg o r) (s.reg r) s) ∧ (∀ v, P (aluImm o v) v s)
    ∧ P (aluMem o) ((s.advance 4).cpuRead s.hl) (s.advance 4)

/-- The result and the outgoing carry of the rotates and shifts as arithmetic on the byte's number (44_rotate_shift_bit.md
R260). -/
def rotNumber (o : Rot) (v c : Nat) : Nat × Bool :=
  match o with
  | .rlc => ((2 * v + v / 128) % 256, decide (128 ≤ v))
  | .rrc => (v / 2 + 128 * (v % 2), decide (v % 2 = 1))
  | .rl => ((2 * v + c) % 256, decide (128 ≤ v))
  | .rr => (v / 2 + 128 * c, decide (v % 2 = 1))
  | .sla => (2 * v % 256, decide (128 ≤ v))
  | .sra => (v / 2 + 128 * (v / 128), decide (v % 2 = 1))
  | .swap => (v % 16 * 16 + v / 16, false)
  | .srl => (v / 2, decide (v % 2 = 1))

/-- The packed-decimal byte of a number below 100. -/
def packedDecimal (n : Nat) : Byte := BitVec.ofNat 8 (n / 10 * 16 + n % 10)

/-- The eleven illegal opcode bytes (30_encoding.md R133). -/
def illegalOpcodes : List Byte := [0xD3, 0xDB, 0xDD, 0xE3, 0xE4, 0xEB, 0xEC, 0xED, 0xF4, 0xFC, 0xFD]

/-- The instruction is one of the eleven illegal bytes. -/
def isIllegal (i : Instr) : Bool := decide (encode i ∈ illegalOpcodes.map fun b => [b])

/-! ## Memory as the bus shows it -/

/-- An ordinary storage cell that a store can change lies behind `a`: VRAM, work RAM or its echo, OAM, high RAM, or open
external RAM. -/
def State.storable (s : State) (a : Word) : Prop := s.hasCell a = true ∧ 0x8000 ≤ a.toNat

/-- `a` lies in the I/O window or is IE (20_memory.md R70, R72). -/
def inIo (a : Word) : Prop := (0xFF00 ≤ a.toNat ∧ a.toNat < 0xFF80) ∨ a = 0xFFFF#16

/-- `a` lies in OAM (20_memory.md R68). -/
def inOam (a : Word) : Prop := 0xFE00 ≤ a.toNat ∧ a.toNat < 0xFEA0

/-- The two bytes of a push of `v` below `sp`: the high byte first, 4 T-cycles before each (00_scope.md R11). -/
def State.pushed (s : State) (sp v : Word) : State :=
  (s.memWrite (sp - 1) (hiByte v)).memWrite (sp - 2) (loByte v)

/-- The word a pop reads at `sp`: the low byte first, 4 T-cycles before each (00_scope.md R11). -/
def State.popped (s : State) (sp : Word) : Word := joinBytes ((s.advance 4).cpuRead sp) ((s.advance 8).cpuRead (sp + 1))

/-- The position of the PPU inside the frame, in dots (62_ppu.md R424). -/
def Ppu.position (p : Ppu) : Nat := p.ly * 456 + p.dot

end Sys2Proof.Machine
end

