-- ==== Sys2Proof/Certificates/Slice0/Obligations.lean ====
section
/-! DEFINITION. The statements of this model for the provers: encoding, reset, every family of instructions, the step,
the devices, the invariants.  Each cites the rules of the spec it rests on. -/

open Sys2Proof Sys2Proof.Machine

/-! ## Encoding -/

/-- The decode vectors written out from the encodings of R124 to R134: the words stand for these instructions. -/
def Obligations.DecodesWrittenWords : Prop :=
  decode [0x46] = .ok (.ld_b_atHL, []) ∧ decode [0x70] = .ok (.ld_atHL_b, []) ∧ decode [0x76] = .ok (.halt, [])
    ∧ decode [0x7F] = .ok (.ld_a_a, []) ∧ decode [0x01, 0x34, 0x12] = .ok (.ld_bc_d16 0x1234, [])
    ∧ decode [0x31, 0x00, 0xD0] = .ok (.ld_sp_d16 0xD000, []) ∧ decode [0xF1] = .ok (.pop_af, [])
    ∧ decode [0xB8] = .ok (.cp_b, []) ∧ decode [0xFE, 0x90] = .ok (.cp_d8 0x90, [])
    ∧ decode [0x20, 0xFC] = .ok (.jr_nz_e8 0xFC, []) ∧ decode [0x38, 0x05] = .ok (.jr_c_e8 0x05, [])
    ∧ decode [0xEF] = .ok (.rst_28, []) ∧ decode [0xCB, 0x7C] = .ok (.bit_7_h, [])
    ∧ decode [0xCB, 0x36] = .ok (.swap_atHL, []) ∧ decode [0xCB, 0xFE] = .ok (.set_7_atHL, [])
    ∧ decode [0x10, 0x00] = .ok (.stop 0x00, []) ∧ decode [0xD3] = .ok (.illegal_d3, [])
    ∧ decode [0xCB, 0xD3] = .ok (.set_2_e, [])

/-- Decoding the bytes of any well-formed instruction gives it back, with every operand at every value, and leaves the
bytes after it (R120, R130, R131, R135). -/
def Obligations.DecodeAfterEncode : Prop :=
  ∀ (i : Instr) (rest : List Byte), i.wf = true → decode (encode i ++ rest) = .ok (i, rest)

/-- The decoder refuses no opcode and every word has one meaning: any three bytes begin a well-formed instruction of one to
three bytes, which encodes to exactly those bytes, and it is an illegal one exactly when the first byte is one of the eleven
(R120, R133, R135). -/
def Obligations.EveryWordIsOneInstruction : Prop :=
  ∀ (op b1 b2 : Byte) (rest : List Byte),
    decode (op :: b1 :: b2 :: rest) = .ok (decodeBytes op b1 b2, (op :: b1 :: b2 :: rest).drop (instrLength op))
      ∧ encode (decodeBytes op b1 b2) = [op, b1, b2].take (instrLength op)
      ∧ (decodeBytes op b1 b2).wf = true ∧ 1 ≤ instrLength op ∧ instrLength op ≤ 3
      ∧ (isIllegal (decodeBytes op b1 b2) = true ↔ op ∈ illegalOpcodes)

/-! ## Registers and reset -/

/-- A view is its two halves, the first-named register the high byte.  Writing BC, DE or HL writes both halves and nothing
else, writing SP or one register writes that alone, and what was written reads back (R21).  F is Z, N, H, C over a low nibble
that is always 0, and a write of AF drops that nibble (R24). -/
def Obligations.PairViews : Prop :=
  ∀ (s : State) (v : Byte) (w : Word),
    let c := s.cpu
    (hiByte w).toNat = w.toNat / 256 ∧ (loByte w).toNat = w.toNat % 256
      ∧ s.pair .bc = s.reg .b ++ s.reg .c ∧ s.pair .de = s.reg .d ++ s.reg .e ∧ s.pair .hl = s.reg .h ++ s.reg .l
      ∧ s.pair .sp = c.sp
      ∧ c.setPair .bc w = { c with b := hiByte w, c := loByte w }
      ∧ c.setPair .de w = { c with d := hiByte w, e := loByte w }
      ∧ c.setPair .hl w = { c with h := hiByte w, l := loByte w }
      ∧ c.setPair .sp w = { c with sp := w }
      ∧ (∀ p, s.setPair p w = { s with cpu := c.setPair p w } ∧ (s.setPair p w).pair p = w)
      ∧ (∀ r, OnlyReg s s r v c.f (s.setReg r v))
      ∧ c.stackPair .af = s.reg .a ++ c.f.toByte
      ∧ c.f.toByte = BitVec.ofNat 8 (128 * c.f.z.toNat + 64 * c.f.n.toNat + 32 * c.f.h.toNat + 16 * c.f.c.toNat)
      ∧ c.setStackPair .af w
        = { c with a := hiByte w, f := ⟨w.getLsbD 7, w.getLsbD 6, w.getLsbD 5, w.getLsbD 4⟩ }
      ∧ (c.setStackPair .af w).stackPair .af = w &&& 0xFFF0#16
      ∧ ∀ p ∈ [(StackPair.bc, Pair.bc), (.de, .de), (.hl, .hl)],
        c.stackPair p.1 = c.pair p.2 ∧ c.setStackPair p.1 w = c.setPair p.2 w

/-- The CPU after reset, whatever the configuration (R40). -/
def Obligations.CpuResetValues : Prop :=
  ∀ (c : Sys2Proof.Config) (s : State), powerOn c = .next s →
    s.cpu.a = 0x01 ∧ s.cpu.f.toByte = 0xB0 ∧ s.cpu.b = 0x00 ∧ s.cpu.c = 0x13 ∧ s.cpu.d = 0x00 ∧ s.cpu.e = 0xD8
      ∧ s.cpu.h = 0x01 ∧ s.cpu.l = 0x4D ∧ s.cpu.sp = 0xFFFE ∧ s.cpu.pc = 0x0100 ∧ s.cpu.ime = false
      ∧ s.cpu.imePending = false ∧ s.cpu.halted = false ∧ s.cpu.haltBug = false ∧ s.cpu.locked = false
      ∧ s.cpu.refused = false ∧ s.cpu.record = none ∧ s.t = 0

/-- What the I/O registers and IE read right after reset, whatever the configuration (R33), and all that the interrupt
controller, the timer, the transfer engine, the PPU, the APU, the serial stub and the joypad port hold then, what no read
shows included (R45 to R49). -/
def Obligations.RegisterResetReads : Prop :=
  ∀ (c : Sys2Proof.Config) (s : State), powerOn c = .next s →
    let silent : Pulse := { enabled := false, ftimer := 0, dutyPos := 0, length := 0, vol := 0, envTimer := 0 }
    s.irq = { flags := 1, enable := 0 }
      ∧ s.timer = { divcnt := 0xABCC, tima := 0, tma := 0, tac := 0, reloadPending := false }
      ∧ s.dma = { active := false, src := 0xFF, remaining := 0, sub := 0 }
      ∧ s.ppu = {
          lcdc := 0x91, statEnable := 0, scy := 0, scx := 0, lyc := 0, bgp := 0xFC, obp0 := 0xFF, obp1 := 0xFF, wy := 0, wx := 0
          mode := .oamScan, ly := 0, dot := 0, mode3Len := 172, statLine := false, lineSprites := [], fb := s.ppu.fb
          frameReady := false }
      ∧ (∀ x y, s.shade x y = 0)
      ∧ s.apu = {
          power := true, nr10 := 0, nr11 := 0x80, nr12 := 0xF3, nr13 := 0, nr14 := 0, nr21 := 0, nr22 := 0, nr23 := 0, nr24 := 0
          nr30 := 0, nr31 := 0, nr32 := 0, nr33 := 0, nr34 := 0, nr41 := 0, nr42 := 0, nr43 := 0, nr44 := 0
          nr50 := 0x77, nr51 := 0xF3, ch1 := silent, ch2 := silent, sweep := { timer := 0, enabled := false, shadow := 0 }
          ch3 := { enabled := false, ftimer := 0, pos := 0, length := 0 }
          ch4 := { enabled := false, ftimer := 0, lfsr := 0, length := 0, vol := 0, envTimer := 0 }
          fsCount := 0, fsStep := 0, sampleCount := 0, audioOut := [] }
      ∧ s.serial = { sb := 0, scStart := false, scClock := false, out := [] } ∧ s.joypad = { select := 0, buttons := 0 }
      ∧ ∀ p ∈ ([(0xFF00, 0xCF), (0xFF01, 0x00), (0xFF02, 0x7E), (0xFF04, 0xAB), (0xFF05, 0x00), (0xFF06, 0x00), (0xFF07, 0xF8),
      (0xFF0F, 0xE1), (0xFF10, 0x80), (0xFF11, 0xBF), (0xFF12, 0xF3), (0xFF13, 0xFF), (0xFF14, 0xBF), (0xFF16, 0x3F),
      (0xFF17, 0x00), (0xFF18, 0xFF), (0xFF19, 0xBF), (0xFF1A, 0x7F), (0xFF1B, 0xFF), (0xFF1C, 0x9F), (0xFF1D, 0xFF),
      (0xFF1E, 0xBF), (0xFF20, 0xFF), (0xFF21, 0x00), (0xFF22, 0x00), (0xFF23, 0xBF), (0xFF24, 0x77), (0xFF25, 0xF3),
      (0xFF26, 0xF0), (0xFF40, 0x91), (0xFF41, 0x86), (0xFF42, 0x00), (0xFF43, 0x00), (0xFF44, 0x00), (0xFF45, 0x00),
      (0xFF46, 0xFF), (0xFF47, 0xFC), (0xFF48, 0xFF), (0xFF49, 0xFF), (0xFF4A, 0x00), (0xFF4B, 0x00), (0xFFFF, 0x00)] :
      List (Word × Byte)), s.cpuRead p.1 = p.2

/-- A malformed header gives no machine: an unsupported kind, a ROM size code above 8, an image of another length, kind
None with other than two banks, or an unknown RAM size code (R84, R85, R361); otherwise there is one.  Its kind and bank
counts are those of the header, its other parameters the configuration's, its memories read as the configured images, its
bank registers hold their reset values and its clock registers `RTC_STUB` (R52, R84, R85, R87 to R91).  Which fault is
reported first is the model's choice (log entry 9), so only the fault's existence is stated; that an image is a list whose
later pairs override earlier ones, 0 where it lists nothing, is the model's form (log entry 2). -/
def Obligations.ConfigurationFaults : Prop :=
  ∀ c : Sys2Proof.Config,
    let kind := Config.romByte c 0x147
    let size := Config.romByte c 0x148
    let ram := Config.romByte c 0x149
    ((∃ s, powerOn c = .next s) ↔
      (kind.toNat ≤ 3 ∨ (0x0F ≤ kind.toNat ∧ kind.toNat ≤ 0x13) ∨ (0x19 ≤ kind.toNat ∧ kind.toNat ≤ 0x1E))
        ∧ size.toNat ≤ 8 ∧ c.romLength = 2 ^ (size.toNat + 1) * 0x4000 ∧ (kind = 0 → size = 0)
        ∧ (ram = 0 ∨ ram = 2 ∨ ram = 3 ∨ ram = 4 ∨ ram = 5))
      ∧ ∀ s, powerOn c = .next s →
        let ramBanks := [0, 0, 1, 4, 16, 8].getD ram.toNat 0
        let holds := fun (m : Memory) (length : Nat) (l : List Host.Cell) => ∀ k, Cells.read m k =
          if k < length then ((l.reverse.find? fun p => p.1 == k).map Prod.snd).getD 0 else 0
        s.cfg = {
            cartKind := if kind = 0 then .none else if kind.toNat ≤ 0x03 then .mbc1 else if kind.toNat ≤ 0x13 then .mbc3 else .mbc5
            romBanks := 2 ^ (size.toNat + 1), ramBanks := ramBanks
            stopMode := c.stopMode, mode3Extra := c.mode3Extra, samplePeriod := c.samplePeriod }
          ∧ holds s.mem.rom c.romLength c.rom ∧ holds s.mem.eram (ramBanks * 0x2000) c.eramInit
          ∧ holds s.mem.vram 0x2000 c.vramInit ∧ holds s.mem.wram 0x2000 c.wramInit ∧ holds s.mem.oam 0xA0 c.oamInit
          ∧ holds s.mem.hram 0x7F c.hramInit ∧ holds s.mem.wave 0x10 c.waveInit
          ∧ s.cart = {
            ramEnable := false, romBank5 := 1, mbc1Hi2 := 0, mbc1Mode := false, romBank7 := 1, mbc3Sel := 0
            rtcLatchState := 0xFF, rtcLive := c.rtcStub, rtcLatched := c.rtcStub, romBank9 := 1, ramBank4 := 0 }

/-! ## Loads and stores -/

/-- `LD r,r'` and `LD r,d8`: the destination holds the source; nothing else changes (R150, R151). -/
def Obligations.RegisterLoads : Prop :=
  ∀ s : State,
    (∀ q r, ∃ t, exec (ldRegReg q r) s = .next t ∧ OnlyReg s s q (s.reg r) s.cpu.f t)
      ∧ (∀ q v, ∃ t, exec (ldRegImm q v) s = .next t ∧ OnlyReg s s q v s.cpu.f t)

/-- The loads from memory: the destination holds the byte the CPU reads at the address 4 T-cycles on; no flag and no
other register changes (R152, R155, R156, R159, R161, R163). -/
def Obligations.MemoryLoads : Prop :=
  ∀ s : State,
    let loads := fun (i : Instr) (r : Reg) (a : Word) =>
      ∃ t, exec i s = .next t ∧ OnlyReg s (s.advance 4) r ((s.advance 4).cpuRead a) s.cpu.f t
    (∀ r, loads (ldRegMem r) r s.hl) ∧ loads .ld_a_atBC .a (s.pair .bc) ∧ loads .ld_a_atDE .a (s.pair .de)
      ∧ (∀ a, loads (.ld_a_atA16 a) .a a) ∧ loads .ldh_a_atC .a (0xFF00#16 + (s.reg .c).setWidth 16)
      ∧ (∀ n : Byte, loads (.ldh_a_atA8 n) .a (0xFF00#16 + n.setWidth 16))

/-- The forms that move HL after the access: A loaded from, or stored at, the old HL, and HL one up or down, wrapping
(R165 to R168). -/
def Obligations.PostIndexedForms : Prop :=
  ∀ s : State,
    let u := s.advance 4
    let w := s.memWrite s.hl s.cpu.a
    exec .ld_a_atHLinc s = .next { u with cpu := { s.cpu with a := u.cpuRead s.hl, h := hiByte (s.hl + 1), l := loByte (s.hl + 1) } }
      ∧ exec .ld_a_atHLdec s = .next { u with cpu := { s.cpu with a := u.cpuRead s.hl, h := hiByte (s.hl - 1), l := loByte (s.hl - 1) } }
      ∧ exec .ld_atHLinc_a s = .next { w with cpu := { s.cpu with h := hiByte (s.hl + 1), l := loByte (s.hl + 1) } }
      ∧ exec .ld_atHLdec_a s = .next { w with cpu := { s.cpu with h := hiByte (s.hl - 1), l := loByte (s.hl - 1) } }

/-- The stores: the register or the immediate goes to the address as one CPU write 4 T-cycles on, no register and no
flag changes, and where the address has an ordinary cell that the CPU can reach, every byte that is not that cell reads
as it would after the 4 T-cycles alone (R153, R154, R157, R158, R160, R162, R164). -/
def Obligations.MemoryStores : Prop :=
  ∀ s : State, s.Inv →
    let stores := fun (i : Instr) (a : Word) (v : Byte) =>
      ∃ t, exec i s = .next t ∧ t.cpu = s.cpu ∧ t = (s.advance 4).cpuWrite a v
        ∧ (s.storable a → (s.advance 4).blocked a = false →
          ∀ b, t.busRead b = if regionOf b = regionOf a then v else (s.advance 4).busRead b)
    (∀ r, stores (ldMemReg r) s.hl (s.reg r)) ∧ (∀ v, stores (.ld_atHL_d8 v) s.hl v)
      ∧ stores .ld_atBC_a (s.pair .bc) s.cpu.a ∧ stores .ld_atDE_a (s.pair .de) s.cpu.a
      ∧ (∀ a, stores (.ld_atA16_a a) a s.cpu.a) ∧ stores .ldh_atC_a (0xFF00#16 + (s.reg .c).setWidth 16) s.cpu.a
      ∧ (∀ n : Byte, stores (.ldh_atA8_a n) (0xFF00#16 + n.setWidth 16) s.cpu.a)

/-- A store to an ordinary cell changes that cell, which an echo address shares, and no other byte of the address space
(R64 to R68, R71, R99). -/
def Obligations.StoreChangesOneCell : Prop :=
  ∀ (s : State) (a : Word) (v : Byte), s.MemInv → s.storable a →
    (s.busWrite a v).busRead a = v
      ∧ (∀ b, regionOf b ≠ regionOf a → (s.busWrite a v).busRead b = s.busRead b)
      ∧ (∀ b, regionOf b = regionOf a → b = a ∨ b = a + 0x2000#16 ∨ b = a - 0x2000#16)
      ∧ (s.busWrite a v).cpu = s.cpu ∧ (s.busWrite a v).cart = s.cart

/-- `Advance(n)` is `n` ticks of one T-cycle, each the timer, the transfer, the PPU, the APU in that order and then `T`;
`m + n` ticks are `m` and then `n`.  They change no CPU register, no register outside the I/O window, no parameter, and no
byte of any memory, mapped or not, but OAM while a transfer runs; a transfer never starts by itself (R100). -/
def Obligations.TimeChangesOnlyDevices : Prop :=
  ∀ (m n : Nat) (s : State),
    s.advance 0 = s ∧ s.advance 1 = { s.timerTick.dmaTick.ppuTick.apuTick with t := s.t + 1 }
      ∧ s.advance (m + n) = (s.advance m).advance n ∧ (s.advance n).t = s.t + n ∧ (s.advance n).cpu = s.cpu
      ∧ (s.advance n).serial = s.serial ∧ (s.advance n).joypad = s.joypad ∧ (s.advance n).cart = s.cart
      ∧ (s.advance n).cfg = s.cfg ∧ (s.advance n).irq.enable = s.irq.enable
      ∧ (s.advance n).mem = { s.mem with oam := (s.advance n).mem.oam }
      ∧ (s.dma.active = false → (s.advance n).mem.oam = s.mem.oam ∧ (s.advance n).dma = s.dma)
      ∧ (∀ a, ¬(0xFF00 ≤ a.toNat ∧ a.toNat < 0xFF80) → (inOam a → s.dma.active = false) →
        (s.advance n).busRead a = s.busRead a)

/-- The 16-bit loads: the immediate, SP from HL, HL from SP plus a signed byte with the carries of the low bytes, and SP
stored low byte first; nothing else changes (R180, R181, R182, R183). -/
def Obligations.WordLoads : Prop :=
  ∀ s : State,
    (∀ p v, exec (ldPairImm p v) s = .next { s with cpu := s.cpu.setPair p v })
      ∧ exec .ld_sp_hl s = .next { s.advance 4 with cpu := { s.cpu with sp := s.hl } }
      ∧ (∀ e : Byte, exec (.ld_hl_spE8 e) s = .next { s.advance 4 with cpu := { s.cpu with
          h := hiByte (s.cpu.sp + e.signExtend 16), l := loByte (s.cpu.sp + e.signExtend 16)
          f := ⟨false, false, decide (0xF < s.cpu.sp.toNat % 16 + e.toNat % 16),
            decide (0xFF < s.cpu.sp.toNat % 256 + e.toNat)⟩ } })
      ∧ (∀ a : Word, ∃ t, exec (.ld_atA16_sp a) s = .next t ∧ t.cpu = s.cpu
          ∧ t = (((s.advance 4).cpuWrite a (loByte s.cpu.sp)).advance 4).cpuWrite (a + 1) (hiByte s.cpu.sp))

/-! ## The stack -/

/-- PUSH: the high byte of the pair at SP - 1, the low byte at SP - 2, SP two down, 12 T-cycles; no flag and no other
register changes; where both bytes land in ordinary cells of their own that no transfer touches, they read back there and
every other byte outside the I/O window and OAM reads as before (R184, R185). -/
def Obligations.Pushes : Prop :=
  ∀ (s : State) (p : StackPair), s.Inv →
    ∃ t, exec (pushPair p) s = .next t
      ∧ t = { (s.pushed s.cpu.sp (s.cpu.stackPair p)).advance 4 with cpu := { s.cpu with sp := s.cpu.sp - 2 } }
      ∧ (s.storable (s.cpu.sp - 1) → s.storable (s.cpu.sp - 2) → s.dma.active = false →
        t.busRead (s.cpu.sp - 1) = hiByte (s.cpu.stackPair p) ∧ t.busRead (s.cpu.sp - 2) = loByte (s.cpu.stackPair p)
          ∧ ∀ b, ¬ inIo b → regionOf b ≠ regionOf (s.cpu.sp - 1) → regionOf b ≠ regionOf (s.cpu.sp - 2) →
            t.busRead b = s.busRead b)

/-- POP: the low byte read at SP, the high byte at SP + 1, SP two up; into AF the low nibble of the low byte is dropped
and the four flags are loaded; otherwise no flag changes (R186, R187). -/
def Obligations.Pops : Prop :=
  ∀ (s : State) (p : StackPair),
    let v := s.popped s.cpu.sp
    let c := { s.cpu with sp := s.cpu.sp + 2 }
    exec (popPair p) s = .next { s.advance 8 with cpu :=
      match p with
      | .bc => { c with b := hiByte v, c := loByte v }
      | .de => { c with d := hiByte v, e := loByte v }
      | .hl => { c with h := hiByte v, l := loByte v }
      | .af => { c with a := hiByte v, f := ⟨v.getLsbD 7, v.getLsbD 6, v.getLsbD 5, v.getLsbD 4⟩ } }

/-- A pair pushed and popped into any pair gives that pair's value there, but for AF's low nibble, and SP is restored,
wherever both bytes lie in ordinary cells and no transfer runs (R184 to R188). -/
def Obligations.PushThenPop : Prop :=
  ∀ (s : State) (p q : StackPair), s.Inv → s.dma.active = false → s.storable (s.cpu.sp - 1) → s.storable (s.cpu.sp - 2) →
    ∃ t u, exec (pushPair p) s = .next t ∧ exec (popPair q) t = .next u ∧ u.cpu.sp = s.cpu.sp
      ∧ u.cpu.stackPair q = if q = .af then s.cpu.stackPair p &&& 0xFFF0#16 else s.cpu.stackPair p

/-! ## 8-bit arithmetic -/

/-- ADD and ADC, every operand form: the sum mod 256, Z, N = 0, the carries out of bits 3 and 7 (R200 to R206). -/
def Obligations.Additions : Prop :=
  ∀ s : State,
    let a := s.cpu.a.toNat
    EachAluForm .add s (fun i v u => exec i s = .next { u with cpu := { s.cpu with
        a := BitVec.ofNat 8 (a + v.toNat)
        f := ⟨decide ((a + v.toNat) % 256 = 0), false, decide (15 < a % 16 + v.toNat % 16), decide (255 < a + v.toNat)⟩ } })
      ∧ EachAluForm .adc s (fun i v u =>
        let c := s.cpu.f.c.toNat
        exec i s = .next { u with cpu := { s.cpu with
          a := BitVec.ofNat 8 (a + v.toNat + c)
          f := ⟨decide ((a + v.toNat + c) % 256 = 0), false, decide (15 < a % 16 + v.toNat % 16 + c),
            decide (255 < a + v.toNat + c)⟩ } })

/-- SUB, SBC and CP, every operand form: the difference mod 256, Z, N = 1, the borrows; CP leaves A (R200, R207 to R212,
R222 to R224). -/
def Obligations.Subtractions : Prop :=
  ∀ s : State,
    let a := s.cpu.a.toNat
    EachAluForm .sub s (fun i v u => exec i s = .next { u with cpu := { s.cpu with
        a := s.cpu.a - v
        f := ⟨decide (s.cpu.a = v), true, decide (a % 16 < v.toNat % 16), decide (a < v.toNat)⟩ } })
      ∧ EachAluForm .sbc s (fun i v u =>
        let c := s.cpu.f.c.toNat
        exec i s = .next { u with cpu := { s.cpu with
          a := s.cpu.a - v - BitVec.ofNat 8 c
          f := ⟨decide (s.cpu.a - v - BitVec.ofNat 8 c = 0), true, decide (a % 16 < v.toNat % 16 + c),
            decide (a < v.toNat + c)⟩ } })
      ∧ EachAluForm .cp s (fun i v u => exec i s = .next { u with cpu := { s.cpu with
        f := ⟨decide (s.cpu.a = v), true, decide (a % 16 < v.toNat % 16), decide (a < v.toNat)⟩ } })

/-- AND, XOR and OR, every operand form: the bitwise result, Z, N = 0, H = 1 for AND alone, C = 0 (R200, R213 to R221). -/
def Obligations.LogicOperations : Prop :=
  ∀ s : State,
    EachAluForm .and s (fun i v u => exec i s = .next { u with cpu := { s.cpu with
        a := s.cpu.a &&& v, f := ⟨decide (s.cpu.a &&& v = 0), false, true, false⟩ } })
      ∧ EachAluForm .xor s (fun i v u => exec i s = .next { u with cpu := { s.cpu with
        a := s.cpu.a ^^^ v, f := ⟨decide (s.cpu.a = v), false, false, false⟩ } })
      ∧ EachAluForm .or s (fun i v u => exec i s = .next { u with cpu := { s.cpu with
        a := s.cpu.a ||| v, f := ⟨decide (s.cpu.a = 0 ∧ v = 0), false, false, false⟩ } })

/-- INC and DEC of a register or of the byte at HL: the wrapped result, Z, N, the half carry or borrow, C unchanged; the
memory form reads and writes 4 T-cycles apart (R225 to R228). -/
def Obligations.ByteIncrements : Prop :=
  ∀ s : State,
    let up := fun v : Byte => (⟨decide (v = 0xFF), false, decide (v.toNat % 16 = 15), s.cpu.f.c⟩ : Flags)
    let down := fun v : Byte => (⟨decide (v = 0x01), true, decide (v.toNat % 16 = 0), s.cpu.f.c⟩ : Flags)
    let v := (s.advance 4).cpuRead s.hl
    (∀ r, ∃ t, exec (incReg r) s = .next t ∧ OnlyReg s s r (s.reg r + 1) (up (s.reg r)) t)
      ∧ (∀ r, ∃ t, exec (decReg r) s = .next t ∧ OnlyReg s s r (s.reg r - 1) (down (s.reg r)) t)
      ∧ exec .inc_atHL s = .next { (s.advance 4).memWrite s.hl (v + 1) with cpu := { s.cpu with f := up v } }
      ∧ exec .dec_atHL s = .next { (s.advance 4).memWrite s.hl (v - 1) with cpu := { s.cpu with f := down v } }

/-- DAA by its table, CPL, SCF and CCF; nothing else changes (R229 to R232).  So DAA makes ADD and SUB of packed-decimal
bytes decimal: the digits of the sum or difference mod 100, and C the decimal carry or borrow (R200, R229). -/
def Obligations.AccumulatorAdjustments : Prop :=
  ∀ s : State,
    let a := s.cpu.a.toNat
    let f := s.cpu.f
    let six := if f.h = true ∨ (f.n = false ∧ 9 < a % 16) then 6 else 0
    let sixty := if f.c = true ∨ (f.n = false ∧ 0x99 < a) then 0x60 else 0
    let r := if f.n then BitVec.ofNat 8 (a + 512 - six - sixty) else BitVec.ofNat 8 (a + six + sixty)
    exec .daa s = .next { s with cpu := { s.cpu with
        a := r, f := ⟨decide (r = 0), f.n, false, decide (f.c = true ∨ (f.n = false ∧ 0x99 < a))⟩ } }
      ∧ exec .cpl s = .next { s with cpu := { s.cpu with a := ~~~s.cpu.a, f := ⟨f.z, true, true, f.c⟩ } }
      ∧ exec .scf s = .next { s with cpu := { s.cpu with f := ⟨f.z, false, false, true⟩ } }
      ∧ exec .ccf s = .next { s with cpu := { s.cpu with f := ⟨f.z, false, false, !f.c⟩ } }
      ∧ ∀ x y : Nat, x < 100 → y < 100 → s.cpu.a = packedDecimal x →
        (∃ t u, exec (.add_a_d8 (packedDecimal y)) s = .next t ∧ exec .daa t = .next u
            ∧ u.cpu.a = packedDecimal ((x + y) % 100) ∧ u.cpu.f.c = decide (100 ≤ x + y))
          ∧ (∃ t u, exec (.sub_d8 (packedDecimal y)) s = .next t ∧ exec .daa t = .next u
            ∧ u.cpu.a = packedDecimal ((x + 100 - y) % 100) ∧ u.cpu.f.c = decide (x < y))

/-! ## 16-bit arithmetic -/

/-- ADD HL,rr with the carries out of bits 11 and 15 and Z unchanged; INC and DEC of a pair with no flag; ADD SP,e8 with
the carries of the low bytes; the internal T-cycles pass at the end (R250 to R253). -/
def Obligations.WordArithmetic : Prop :=
  ∀ s : State,
    (∀ p, exec (addHlPair p) s = .next { s.advance 4 with cpu := { s.cpu with
        h := hiByte (s.hl + s.pair p), l := loByte (s.hl + s.pair p)
        f := ⟨s.cpu.f.z, false, decide (0xFFF < s.hl.toNat % 4096 + (s.pair p).toNat % 4096),
          decide (0xFFFF < s.hl.toNat + (s.pair p).toNat)⟩ } })
      ∧ (∀ p, exec (incPair p) s = .next { s.advance 4 with cpu := s.cpu.setPair p (s.pair p + 1) })
      ∧ (∀ p, exec (decPair p) s = .next { s.advance 4 with cpu := s.cpu.setPair p (s.pair p - 1) })
      ∧ (∀ e : Byte, exec (.add_sp_e8 e) s = .next { s.advance 8 with cpu := { s.cpu with
          sp := s.cpu.sp + e.signExtend 16
          f := ⟨false, false, decide (0xF < s.cpu.sp.toNat % 16 + e.toNat % 16),
            decide (0xFF < s.cpu.sp.toNat % 256 + e.toNat)⟩ } })

/-! ## Rotates, shifts and bits -/

/-- The eight rotates and shifts after 0xCB, of a register and of the byte at HL: the result, Z of it, N = H = 0, C the
bit moved out; the memory form reads and writes 4 T-cycles apart.  The four one-byte rotates of A: the same result and C,
Z = N = H = 0 (R260 to R280). -/
def Obligations.RotatesAndShifts : Prop :=
  ∀ (s : State) (o : Rot),
    let r := fun v : Byte => rotNumber o v.toNat s.cpu.f.c.toNat
    let flags := fun v : Byte => (⟨decide ((r v).1 = 0), false, false, (r v).2⟩ : Flags)
    let v := (s.advance 4).cpuRead s.hl
    let ofA := { s with cpu := { s.cpu with
      a := BitVec.ofNat 8 (r s.cpu.a).1, f := ⟨false, false, false, (r s.cpu.a).2⟩ } }
    (∀ x, ∃ t, exec (rotReg o x) s = .next t ∧ OnlyReg s s x (BitVec.ofNat 8 (r (s.reg x)).1) (flags (s.reg x)) t)
      ∧ exec (rotMem o) s
        = .next { (s.advance 4).memWrite s.hl (BitVec.ofNat 8 (r v).1) with cpu := { s.cpu with f := flags v } }
      ∧ (o = .rlc → exec .rlca s = .next ofA) ∧ (o = .rrc → exec .rrca s = .next ofA)
      ∧ (o = .rl → exec .rla s = .next ofA) ∧ (o = .rr → exec .rra s = .next ofA)

/-- BIT: Z the complement of the bit, N = 0, H = 1, C unchanged, nothing written; RES and SET: that bit alone, no flag,
the memory forms reading and writing 4 T-cycles apart (R281 to R286). -/
def Obligations.BitInstructions : Prop :=
  ∀ (s : State) (b : Fin 8),
    let flags := fun v : Byte => (⟨!v.getLsbD b, false, true, s.cpu.f.c⟩ : Flags)
    let v := (s.advance 4).cpuRead s.hl
    let changed := fun (v w : Byte) (x : Bool) => ∀ k, k < 8 → w.getLsbD k = if k = b.val then x else v.getLsbD k
    (∀ r, exec (bitReg b r) s = .next { s with cpu := { s.cpu with f := flags (s.reg r) } })
      ∧ exec (bitMem b) s = .next { s.advance 4 with cpu := { s.cpu with f := flags v } }
      ∧ (∀ r, ∃ t w, exec (resReg b r) s = .next t ∧ changed (s.reg r) w false ∧ OnlyReg s s r w s.cpu.f t)
      ∧ (∀ r, ∃ t w, exec (setReg b r) s = .next t ∧ changed (s.reg r) w true ∧ OnlyReg s s r w s.cpu.f t)
      ∧ (∃ w, exec (resMem b) s = .next ((s.advance 4).memWrite s.hl w) ∧ changed v w false)
      ∧ (∃ w, exec (setMem b) s = .next ((s.advance 4).memWrite s.hl w) ∧ changed v w true)

/-! ## Control transfer -/

/-- JP, JP HL and JR: `pc` at the target, the relative one counted from the byte after the instruction; a condition is
NZ, Z, NC or C of F, and where it fails nothing happens; no flag and no memory changes (R300 to R305). -/
def Obligations.Jumps : Prop :=
  ∀ (s : State) (a : Word) (e : Byte),
    let go := fun (b : Word) => { s.advance 4 with cpu := { s.cpu with pc := b } }
    let rel := s.cpu.pc + e.signExtend 16
    let z := s.cpu.f.z
    let c := s.cpu.f.c
    exec (.jp_a16 a) s = .next (go a) ∧ exec (.jr_e8 e) s = .next (go rel)
      ∧ exec .jp_hl s = .next { s with cpu := { s.cpu with pc := s.hl } }
      ∧ exec (.jp_nz_a16 a) s = .next (if z then s else go a) ∧ exec (.jp_z_a16 a) s = .next (if z then go a else s)
      ∧ exec (.jp_nc_a16 a) s = .next (if c then s else go a) ∧ exec (.jp_c_a16 a) s = .next (if c then go a else s)
      ∧ exec (.jr_nz_e8 e) s = .next (if z then s else go rel) ∧ exec (.jr_z_e8 e) s = .next (if z then go rel else s)
      ∧ exec (.jr_nc_e8 e) s = .next (if c then s else go rel) ∧ exec (.jr_c_e8 e) s = .next (if c then go rel else s)

/-- CALL, conditional CALL and RST: `pc` pushed high byte first, `pc` at the target, SP two down; a condition that fails
leaves everything; no flag and no other register changes (R306, R307, R311). -/
def Obligations.CallsAndRestarts : Prop :=
  ∀ (s : State) (a : Word),
    let called := fun (b : Word) =>
      { (s.pushed s.cpu.sp s.cpu.pc).advance 4 with cpu := { s.cpu with sp := s.cpu.sp - 2, pc := b } }
    let z := s.cpu.f.z
    let c := s.cpu.f.c
    exec (.call_a16 a) s = .next (called a)
      ∧ exec (.call_nz_a16 a) s = .next (if z then s else called a) ∧ exec (.call_z_a16 a) s = .next (if z then called a else s)
      ∧ exec (.call_nc_a16 a) s = .next (if c then s else called a) ∧ exec (.call_c_a16 a) s = .next (if c then called a else s)
      ∧ (∀ k : Fin 8, exec (rst k) s = .next (called (BitVec.ofNat 16 (8 * k.val))))

/-- RET, conditional RET and RETI: `pc` from the stack, SP two up, RETI also IME = 1 at once; a conditional return that
is taken owes 8 internal T-cycles and one that is not 4; no flag and no memory changes (R308, R309, R310). -/
def Obligations.Returns : Prop :=
  ∀ s : State,
    let back := fun (k : Nat) => { s.advance k with cpu := { s.cpu with sp := s.cpu.sp + 2, pc := s.popped s.cpu.sp } }
    let stay := s.advance 4
    let z := s.cpu.f.z
    let c := s.cpu.f.c
    exec .ret s = .next (back 12)
      ∧ exec .reti s = .next { back 12 with cpu := { (back 12).cpu with ime := true } }
      ∧ exec .ret_nz s = .next (if z then stay else back 16) ∧ exec .ret_z s = .next (if z then back 16 else stay)
      ∧ exec .ret_nc s = .next (if c then stay else back 16) ∧ exec .ret_c s = .next (if c then back 16 else stay)

/-! ## CPU control -/

/-- NOP does nothing; DI clears IME and the latch; EI sets the latch and leaves IME; HALT halts, but with IME clear and
an enabled interrupt pending it sets the HALT-bug latch instead (R320, R321, R323, R324).  STOP under `nop2` is a
no-operation over its two fetched bytes; under `refuse` it sets the mark with a record of the opcode's address and byte,
after which no step exists (R322); the record's snapshot is the model's choice (log entry 7), so it is left open.  The
prefix row with its second byte completes, and does what the CB row of that byte does (R122, R131, R325). -/
def Obligations.CpuControl : Prop :=
  ∀ (s : State) (v : Byte),
    exec .nop s = .next s
      ∧ exec .di s = .next { s with cpu := { s.cpu with ime := false, imePending := false } }
      ∧ exec .ei s = .next { s with cpu := { s.cpu with imePending := true } }
      ∧ exec .halt s = .next { s with cpu :=
        if s.cpu.ime = false ∧ s.irq.flags &&& s.irq.enable.setWidth 5 ≠ 0 then
          { s.cpu with haltBug := true }
        else { s.cpu with halted := true } }
      ∧ (s.cfg.stopMode = .nop2 → exec (.stop v) s = .next s)
      ∧ (s.cfg.stopMode = .refuse → ∃ x, exec (.stop v) s = .next { s with cpu := { s.cpu with
          refused := true, record := some ⟨.stopRefused, s.cpu.curAddr, 0x10, x⟩ } })
      ∧ ∃ t, exec (.prefixCB v) s = .next t ∧ exec (decodeBytes 0xCB v 0) s = .next t

/-- Taking the illegal-opcode exception: the record of address, byte and register snapshot, `pc` back at the byte, the
lock; nothing else.  As a step: an illegal byte fetched as an opcode, with the HALT-bug latch set or clear, locks the CPU 4
T-cycles on with its own address in the record and in `pc`, and no step exists after it (R326, R360). -/
def Obligations.IllegalOpcodeEntry : Prop :=
  ∀ s : State,
    let entry := fun (u : State) (op : Byte) (at' : Word) => { u with cpu := { u.cpu with
      locked := true
      pc := at'
      record := some { cause := .illegalOpcode, addr := at', opcode := op, snapshot :=
        { a := s.cpu.a, f := s.cpu.f.toByte, b := s.cpu.b, c := s.cpu.c, d := s.cpu.d, e := s.cpu.e, h := s.cpu.h,
          l := s.cpu.l, sp := s.cpu.sp, pc := at', ime := s.cpu.ime } } } }
    (∀ p ∈ ([(.illegal_d3, 0xD3), (.illegal_db, 0xDB), (.illegal_dd, 0xDD), (.illegal_e3, 0xE3), (.illegal_e4, 0xE4),
        (.illegal_eb, 0xEB), (.illegal_ec, 0xEC), (.illegal_ed, 0xED), (.illegal_f4, 0xF4), (.illegal_fc, 0xFC),
        (.illegal_fd, 0xFD)] : List (Instr × Byte)), exec p.1 s = .next (entry s p.2 s.cpu.curAddr))
      ∧ (s.runsInstruction → s.cpu.imePending = false → (s.advance 4).cpuRead s.cpu.pc ∈ illegalOpcodes →
        ∃ t, step s = .next t ∧ step t = .fault .locked
          ∧ t = entry { s.advance 4 with cpu := { s.cpu with halted := false, haltBug := false, curAddr := s.cpu.pc } }
              ((s.advance 4).cpuRead s.cpu.pc) s.cpu.pc)

/-! ## The step -/

/-- No step exists once the CPU is locked or has refused STOP; in every other state there is exactly one, it takes 4, 8,
12, 16, 20 or 24 T-cycles, and it never changes the ROM image, the parameters or the host's buttons (R62, R340, R412). -/
def Obligations.StepExistsAndTakesTime : Prop :=
  ∀ s : State,
    (s.cpu.locked = true → step s = .fault .locked)
      ∧ (s.cpu.locked = false → s.cpu.refused = true → step s = .refused .stopRefused)
      ∧ (s.live → ∃ t k, step s = .next t ∧ 1 ≤ k ∧ k ≤ 6 ∧ t.t = s.t + 4 * k ∧ t.mem.rom = s.mem.rom
        ∧ t.cfg = s.cfg ∧ t.joypad.buttons = s.joypad.buttons)

/-- Interrupt service: with IME set, the pending enabled source of least index is serviced, even from a halt: IME, its
IF bit and the HALT-bug latch cleared, `pc` pushed, `pc` at 0x0040 + 8 i, 20 T-cycles; nothing else (R340, R350, R351). -/
def Obligations.InterruptService : Prop :=
  ∀ (s : State) (i : Source), s.live → s.cpu.ime = true →
    s.irq.flags.getLsbD i.index = true → s.irq.enable.getLsbD i.index = true →
    (∀ k, k < i.index → s.irq.flags.getLsbD k = false ∨ s.irq.enable.getLsbD k = false) →
    let u := { s with irq := { s.irq with flags := s.irq.flags &&& ~~~(1#5 <<< i.index) } }
    step s = .next { (u.pushed s.cpu.sp s.cpu.pc).advance 12 with cpu := { s.cpu with
      halted := false, ime := false, haltBug := false, sp := s.cpu.sp - 2, pc := BitVec.ofNat 16 (0x40 + 8 * i.index) } }

/-- A halted CPU: with no enabled interrupt pending the step is 4 T-cycles and nothing else; with one pending, whatever
IME is, it is the step the CPU takes when it is not halted, at no cost of its own (R341, R342). -/
def Obligations.HaltedStep : Prop :=
  ∀ s : State, s.cpu.halted = true →
    (s.live → s.irq.flags &&& s.irq.enable.setWidth 5 = 0 → step s = .next (s.advance 4))
      ∧ (s.irq.flags &&& s.irq.enable.setWidth 5 ≠ 0 → step s = step { s with cpu := { s.cpu with halted := false } })

/-- A step runs the decoded instruction: with nothing to service, not halted and the HALT-bug latch clear, the bytes at
`pc` as the CPU reads them, each at its own T-cycle, decode to `i`; the step is `exec i` on the machine that has fetched
them, with `pc` past them, and then the EI latch (R121, R128, R340, R343, R346).  That a step which locks or refuses
ends with the latch like any other is the model's reading (log entry 8), and so is which HALT keeps the latch (log entry
14). -/
def Obligations.StepRunsDecoded : Prop :=
  ∀ (s : State) (i : Instr) (rest : List Byte), s.live → s.cpu.halted = false → s.cpu.haltBug = false →
    (s.cpu.ime = false ∨ s.irq.flags &&& s.irq.enable.setWidth 5 = 0) →
    decode [(s.advance 4).cpuRead s.cpu.pc, (s.advance 8).cpuRead (s.cpu.pc + 1), (s.advance 12).cpuRead (s.cpu.pc + 2)]
      = .ok (i, rest) →
    ∃ t, exec i { s.advance (4 * (3 - rest.length)) with cpu := { s.cpu with
          pc := s.cpu.pc + BitVec.ofNat 16 (3 - rest.length), curAddr := s.cpu.pc } } = .next t
      ∧ step s = .next (if s.cpu.imePending = true ∧ t.cpu.imePending = true ∧ (t.cpu.ime = true ∨ t.cpu.halted = false) then
          { t with cpu := { t.cpu with ime := true, imePending := false } } else t)

/-- The HALT bug: the latch keeps `pc` on the opcode byte for one fetch, so that a one-byte instruction runs with `pc`
still on it and a longer one takes its own first byte as its first operand (R30, R121, R321). -/
def Obligations.HaltBugFetch : Prop :=
  ∀ (s : State) (i : Instr) (rest : List Byte), s.live → s.cpu.halted = false → s.cpu.haltBug = true →
    s.cpu.ime = false → s.cpu.imePending = false →
    decode [(s.advance 4).cpuRead s.cpu.pc, (s.advance 8).cpuRead s.cpu.pc, (s.advance 12).cpuRead (s.cpu.pc + 1)]
      = .ok (i, rest) →
    step s = exec i { s.advance (4 * (3 - rest.length)) with cpu := { s.cpu with
      haltBug := false, pc := s.cpu.pc + BitVec.ofNat 16 (2 - rest.length), curAddr := s.cpu.pc } }

/-- The EI delay: after EI with IME clear nothing is serviced before the next instruction.  When that completes, or the
first instruction after the wake where it was a HALT that halted, IME is set, unless it is DI; a HALT that halts leaves IME
clear and the latch set, and no instruction halts right after the wake (R324, R346, R541).  That the latch waits for the
wake follows R346 (e) and D19, against other places of the spec (log entry 14). -/
def Obligations.EiDelay : Prop :=
  ∀ s : State, s.runsInstruction → s.cpu.ime = false →
    let i := s.wake.fetch.1
    (i = .ei → s.cpu.imePending = false →
        ∃ t, step s = .next t ∧ t.cpu.ime = false ∧ t.cpu.imePending = true ∧ t.cpu.halted = false ∧ t.runsInstruction)
      ∧ (s.cpu.imePending = true → ∀ u, step s = .next u →
        (i = .di → u.cpu.ime = false ∧ u.cpu.imePending = false)
          ∧ (i ≠ .di → u.live → u.cpu.halted = false → u.cpu.ime = true ∧ u.cpu.imePending = false)
          ∧ (u.cpu.halted = true → i = .halt ∧ s.cpu.halted = false ∧ u.cpu.ime = false ∧ u.cpu.imePending = true))

/-- Only these instructions change these bits: IME by DI and RETI (EI acts through the latch), the latch by EI and DI,
the halt and the HALT-bug latch by HALT, the lock by an illegal byte, the refusal by STOP; and every instruction
completes (R27, R28, R29, R30, R31). -/
def Obligations.RunBitWriters : Prop :=
  ∀ (i : Instr) (s : State), ∃ t, exec i s = .next t
    ∧ (t.cpu.ime ≠ s.cpu.ime → i = .di ∨ i = .reti)
    ∧ (t.cpu.imePending ≠ s.cpu.imePending → i = .di ∨ i = .ei)
    ∧ (t.cpu.halted ≠ s.cpu.halted → i = .halt) ∧ (t.cpu.haltBug ≠ s.cpu.haltBug → i = .halt)
    ∧ (t.cpu.locked ≠ s.cpu.locked → isIllegal i = true)
    ∧ (t.cpu.refused ≠ s.cpu.refused → ∃ v, i = .stop v)

/-! ## Devices -/

/-- The bus map: VRAM, work RAM, OAM and high RAM each at its place, the cell read and that cell alone written; echo RAM
is the work RAM 0x2000 below, for reads and writes; the unmapped range and an I/O address with no register read 0xFF and
ignore writes; a write to ROM changes no ROM byte (R61, R62, R64, R66 to R69, R71, R76).  Every register outside the APU and
the joypad port reads as its rule says; IF takes five bits and IE eight, SB, the scroll and window registers and the
palettes take the byte, a write of 0xFF46 starts a transfer, LY ignores a write, and nothing else changes (R347, R348,
R380, R381, R395, R405, R427 to R430). -/
def Obligations.BusMap : Prop :=
  ∀ (s : State) (a : Word) (v : Byte),
    let p := s.ppu
    let mode := match p.mode with
      | .hblank => 0
      | .vblank => 1
      | .oamScan => 2
      | .pixelTransfer => 3
    let plain := fun (first last : Nat) (m : Memory) (put : Memory → Mem) => first ≤ a.toNat → a.toNat ≤ last →
      s.busRead a = Cells.read m (a.toNat - first)
        ∧ ∃ n, s.busWrite a v = { s with mem := put n }
          ∧ (s.MemInv → ∀ k, Cells.read n k = if k = a.toNat - first then v else Cells.read m k)
    plain 0x8000 0x9FFF s.mem.vram (fun n => { s.mem with vram := n })
      ∧ plain 0xC000 0xDFFF s.mem.wram (fun n => { s.mem with wram := n })
      ∧ plain 0xFE00 0xFE9F s.mem.oam (fun n => { s.mem with oam := n })
      ∧ plain 0xFF80 0xFFFE s.mem.hram (fun n => { s.mem with hram := n })
      ∧ (0xE000 ≤ a.toNat → a.toNat < 0xFE00 →
        s.busRead a = s.busRead (a - 0x2000#16) ∧ s.busWrite a v = s.busWrite (a - 0x2000#16) v)
      ∧ (0xFEA0 ≤ a.toNat → a.toNat < 0xFF00 → s.busRead a = 0xFF ∧ s.busWrite a v = s)
      ∧ (a ∈ ([0xFF03, 0xFF08, 0xFF09, 0xFF0A, 0xFF0B, 0xFF0C, 0xFF0D, 0xFF0E, 0xFF15, 0xFF1F, 0xFF27, 0xFF28, 0xFF29, 0xFF2A,
          0xFF2B, 0xFF2C, 0xFF2D, 0xFF2E, 0xFF2F] : List Word) ∨ (0xFF4C ≤ a.toNat ∧ a.toNat ≤ 0xFF7F) →
        s.busRead a = 0xFF ∧ s.busWrite a v = s)
      ∧ (a.toNat < 0x8000 → s.busWrite a v = { s with cart := (s.busWrite a v).cart })
      ∧ (∀ q ∈ ([(0xFF01, s.serial.sb),
          (0xFF02, BitVec.ofNat 8 (0x7E + 128 * s.serial.scStart.toNat + s.serial.scClock.toNat)),
          (0xFF04, BitVec.ofNat 8 (s.timer.divcnt.toNat / 256)), (0xFF05, s.timer.tima), (0xFF06, s.timer.tma),
          (0xFF07, BitVec.ofNat 8 (0xF8 + s.timer.tac.toNat)), (0xFF0F, BitVec.ofNat 8 (0xE0 + s.irq.flags.toNat)),
          (0xFF40, p.lcdc),
          (0xFF41, BitVec.ofNat 8 (0x80 + 8 * p.statEnable.toNat + (if p.ly = p.lyc.toNat then 4 else 0)
            + (if p.lcdc.getLsbD 7 then mode else 0))),
          (0xFF42, p.scy), (0xFF43, p.scx), (0xFF44, BitVec.ofNat 8 p.ly), (0xFF45, p.lyc), (0xFF46, s.dma.src),
          (0xFF47, p.bgp), (0xFF48, p.obp0), (0xFF49, p.obp1), (0xFF4A, p.wy), (0xFF4B, p.wx), (0xFFFF, s.irq.enable)] :
          List (Word × Byte)), s.busRead q.1 = q.2)
      ∧ s.busWrite 0xFF01 v = { s with serial := { s.serial with sb := v } }
      ∧ s.busWrite 0xFF0F v = { s with irq := { s.irq with flags := BitVec.ofNat 5 (v.toNat % 32) } }
      ∧ s.busWrite 0xFFFF v = { s with irq := { s.irq with enable := v } }
      ∧ s.busWrite 0xFF42 v = { s with ppu := { p with scy := v } } ∧ s.busWrite 0xFF43 v = { s with ppu := { p with scx := v } }
      ∧ s.busWrite 0xFF44 v = s
      ∧ s.busWrite 0xFF46 v = { s with dma := { active := true, src := v, remaining := 160, sub := 0 } }
      ∧ s.busWrite 0xFF47 v = { s with ppu := { p with bgp := v } } ∧ s.busWrite 0xFF48 v = { s with ppu := { p with obp0 := v } }
      ∧ s.busWrite 0xFF49 v = { s with ppu := { p with obp1 := v } } ∧ s.busWrite 0xFF4A v = { s with ppu := { p with wy := v } }
      ∧ s.busWrite 0xFF4B v = { s with ppu := { p with wx := v } }

/-- A transfer shuts the CPU out of everything but high RAM: reads give 0xFF, writes do nothing; otherwise the CPU's
accesses are the bus's (R98, R99). -/
def Obligations.DmaShutsOutCpu : Prop :=
  ∀ (s : State) (a : Word) (v : Byte),
    (s.dma.active = true ∧ ¬(0xFF80 ≤ a.toNat ∧ a.toNat ≤ 0xFFFE) → s.cpuRead a = 0xFF ∧ s.cpuWrite a v = s)
      ∧ (¬(s.dma.active = true ∧ ¬(0xFF80 ≤ a.toNat ∧ a.toNat ≤ 0xFFFE)) →
        s.cpuRead a = s.busRead a ∧ s.cpuWrite a v = s.busWrite a v)

/-- The OAM transfer.  Its tick, whatever the page: idle, nothing; three ticks in four only count; the fourth copies the
next byte, read as the bus gives it, into OAM, and the last byte ends the transfer.  From a write of page `v` to 0xFF46, byte
`i` is in OAM once tick 4 (i + 1) has passed, the engine is busy for 639 ticks and idle after the 640th (R395, R396, R397).
Pages 0xFE and 0xFF read OAM and registers that move under the transfer, so their bytes are those of the tick's own
rule. -/
def Obligations.DmaCopiesPage : Prop :=
  ∀ (s : State) (v : Byte),
    let d := s.dma
    let n := 160 - d.remaining
    let u := s.busWrite 0xFF46 v
    (d.active = false → s.dmaTick = s)
      ∧ (d.active = true → d.sub ≠ 3 → s.dmaTick = { s with dma := { d with sub := d.sub + 1 } })
      ∧ (d.active = true → d.sub = 3 → 1 ≤ d.remaining → ∃ oam,
        s.dmaTick = { s with
            dma := { d with sub := 0, remaining := d.remaining - 1, active := decide (d.remaining ≠ 1) }
            mem := { s.mem with oam := oam } }
          ∧ (s.MemInv → ∀ k, Cells.read oam k =
            if k = n then s.busRead (BitVec.ofNat 16 (d.src.toNat * 256 + n)) else Cells.read s.mem.oam k))
      ∧ ((∀ k, k < 640 → (u.advance k).dma.active = true) ∧ (u.advance 640).dma.active = false)
      ∧ (s.MemInv → v.toNat < 0xFE → ∀ k i, i < 160 → 4 * (i + 1) ≤ k → k ≤ 640 →
        (u.advance k).busRead (BitVec.ofNat 16 (0xFE00 + i)) = s.busRead (BitVec.ofNat 16 (v.toNat * 256 + i)))

/-- One tick of the timer: a pending reload loads TMA and requests Timer, the divider counts, and TIMA increments where
the TAC-selected divider bit falls while TAC enables it; an increment of 0xFF leaves 0x00 and a pending reload; nothing
else (R383, R384, R385, R386). -/
def Obligations.TimerTick : Prop :=
  ∀ s : State,
    let bit := [9, 3, 5, 7].getD (s.timer.tac.toNat % 4) 0
    let base := if s.timer.reloadPending then s.timer.tma else s.timer.tima
    let falls := s.timer.tac.getLsbD 2 && s.timer.divcnt.getLsbD bit && !(s.timer.divcnt + 1).getLsbD bit
    s.timerTick = { s with
      timer := { divcnt := s.timer.divcnt + 1, tima := if falls then base + 1 else base, tma := s.timer.tma,
                 tac := s.timer.tac, reloadPending := falls && decide (base = 0xFF) }
      irq := { s.irq with flags := if s.timer.reloadPending then s.irq.flags ||| 0b00100#5 else s.irq.flags } }

/-- Writes of the timer's registers: DIV clears the divider and increments TIMA where the selected bit was 1 and counting
enabled; TIMA and TMA store; TAC stores its low three bits, which read back under five bits of 1, and does nothing else
(R381, R382, R387, R388). -/
def Obligations.TimerWrites : Prop :=
  ∀ (s : State) (v : Byte),
    let bit := [9, 3, 5, 7].getD (s.timer.tac.toNat % 4) 0
    let falls := s.timer.tac.getLsbD 2 && s.timer.divcnt.getLsbD bit
    s.busWrite 0xFF04 v = { s with timer := { s.timer with
        divcnt := 0, tima := if falls then s.timer.tima + 1 else s.timer.tima,
        reloadPending := s.timer.reloadPending || (falls && decide (s.timer.tima = 0xFF)) } }
      ∧ s.busWrite 0xFF05 v = { s with timer := { s.timer with tima := v } }
      ∧ s.busWrite 0xFF06 v = { s with timer := { s.timer with tma := v } }
      ∧ s.busWrite 0xFF07 v = { s with timer := { s.timer with tac := BitVec.ofNat 3 (v.toNat % 8) } }
      ∧ (s.busWrite 0xFF07 v).busRead 0xFF07 = 0xF8#8 ||| v

/-- A write of SC with bits 7 and 0 set puts SB on the output stream, leaves 0xFF in SB and SC bit 7 clear, and requests
Serial; any other write only stores the two bits (R406). -/
def Obligations.SerialTransfer : Prop :=
  ∀ (s : State) (v : Byte),
    (v.getLsbD 7 = true → v.getLsbD 0 = true → s.busWrite 0xFF02 v = { s with
        serial := { sb := 0xFF, scStart := false, scClock := true, out := s.serial.out ++ [s.serial.sb] }
        irq := { s.irq with flags := s.irq.flags ||| 0b01000#5 } })
      ∧ (¬(v.getLsbD 7 = true ∧ v.getLsbD 0 = true) → s.busWrite 0xFF02 v = { s with
        serial := { s.serial with scStart := v.getLsbD 7, scClock := v.getLsbD 0 } })

/-- The joypad port: a write stores bits 5:4 alone; a read shows a pressed button as 0 on its line of each selected
group, and 1 in bits 7:6; a newly pressed button requests Joypad, a release nothing (R410, R411, R412). -/
def Obligations.JoypadPort : Prop :=
  ∀ (s : State) (v : Byte),
    s.busWrite 0xFF00 v = { s with joypad := { s.joypad with select := v.extractLsb' 4 2 } }
      ∧ (∀ k : Fin 4, (s.busRead 0xFF00).getLsbD k.val
          = !((!s.joypad.select.getLsbD 0 && s.joypad.buttons.getLsbD ([3, 2, 0, 1].getD k.val 0))
            || (!s.joypad.select.getLsbD 1 && s.joypad.buttons.getLsbD (k.val + 4))))
      ∧ (s.busRead 0xFF00).extractLsb' 4 4 = 0b11#2 ++ s.joypad.select
      ∧ s.setButtons v = { s with
          joypad := { s.joypad with buttons := v }
          irq := { s.irq with flags :=
            if v &&& ~~~s.joypad.buttons ≠ 0 then s.irq.flags ||| 0b10000#5
            else s.irq.flags } }

/-- The PPU's position: with the LCD on, `n` ticks move it `n` dots on in a frame of 154 lines of 456 dots; a tick
requests VBlank when it enters line 144, and no other tick sets that bit; with the LCD off nothing moves (R421, R424,
R436, R450). -/
def Obligations.PpuPosition : Prop :=
  ∀ (s : State) (n : Nat), s.ppu.ly < 154 → s.ppu.dot < 456 →
    (s.ppu.lcdOn = true → (s.advance n).ppu.position = (s.ppu.position + n) % 70224 ∧ (s.advance n).ppu.lcdOn = true
        ∧ (s.ppuTick.irq.flags.getLsbD 0 = (s.irq.flags.getLsbD 0 || decide (s.ppuTick.ppu.position = 65664)))
        ∧ (s.ppuTick.ppu.position = 65664 → s.ppuTick.ppu.frameReady = true ∧ s.ppuTick.ppu.mode = .vblank))
      ∧ (s.ppu.lcdOn = false → (s.advance n).ppu = s.ppu ∧ s.ppuTick.irq = s.irq)

/-- A write of LCDC, and all that it changes.  Bit 7 from 1 to 0 blanks the picture at once, marks the frame ready, puts the
PPU at line 0, dot 0, mode HBlank with no sprites and the STAT line low, and raises no request; from 0 to 1 it restarts at
line 0, dot 0, OamScan; without such a change LCDC alone is written.  Then the STAT line is updated, which can request STAT
and nothing else (R426, R450, R451). -/
def Obligations.LcdSwitch : Prop :=
  ∀ (s : State) (v : Byte),
    let p := s.ppu
    let t := s.busWrite 0xFF40 v
    t = { s with ppu := t.ppu, irq := { s.irq with flags := t.irq.flags } }
      ∧ (∀ k, k ≠ 1 → t.irq.flags.getLsbD k = s.irq.flags.getLsbD k)
      ∧ t.busRead 0xFF40 = v
      ∧ (p.lcdc.getLsbD 7 = true → v.getLsbD 7 = false →
        t.ppu = { p with
            lcdc := v, ly := 0, dot := 0, mode := .hblank, lineSprites := [], statLine := false, frameReady := true
            fb := t.ppu.fb }
          ∧ (∀ x y, t.shade x y = 0) ∧ t.irq = s.irq ∧ (t.busRead 0xFF41).extractLsb' 0 2 = 0#2)
      ∧ (p.lcdc.getLsbD 7 = false → v.getLsbD 7 = true →
        t.ppu = { p with lcdc := v, ly := 0, dot := 0, mode := .oamScan, statLine := t.ppu.statLine })
      ∧ (p.lcdc.getLsbD 7 = v.getLsbD 7 → t.ppu = { p with lcdc := v, statLine := t.ppu.statLine })

/-- The STAT line after a write of LCDC, STAT or LYC, and after a tick, is 1 exactly when the LCD is on and an enabled
condition holds; STAT is requested exactly where the line goes from 0 to 1, so switching the LCD on can request it.  A write
of STAT or LYC changes its register, the line and that request, and nothing else (R427, R429, R437, R450, R451). -/
def Obligations.StatLine : Prop :=
  ∀ (s : State) (v : Byte),
    let level := fun p : Ppu => p.lcdc.getLsbD 7 &&
      ((p.statEnable.getLsbD 3 && decide (p.ly = p.lyc.toNat)) || (p.statEnable.getLsbD 2 && decide (p.mode = .oamScan))
        || (p.statEnable.getLsbD 1 && decide (p.mode = .vblank)) || (p.statEnable.getLsbD 0 && decide (p.mode = .hblank)))
    let updated := fun t : State => t.ppu.statLine = level t.ppu
      ∧ t.irq.flags.getLsbD 1 = (s.irq.flags.getLsbD 1 || (t.ppu.statLine && !s.ppu.statLine))
      ∧ t.irq.enable = s.irq.enable ∧ ∀ k, 2 ≤ k → t.irq.flags.getLsbD k = s.irq.flags.getLsbD k
    let written := fun (p : Ppu) (t : State) => updated t ∧ t.irq.flags.getLsbD 0 = s.irq.flags.getLsbD 0
      ∧ t = { s with ppu := { p with statLine := t.ppu.statLine }, irq := t.irq }
    updated (s.busWrite 0xFF40 v) ∧ (s.busWrite 0xFF40 v).ppu.lcdc = v
      ∧ written { s.ppu with statEnable := v.extractLsb' 3 4 } (s.busWrite 0xFF41 v)
      ∧ written { s.ppu with lyc := v } (s.busWrite 0xFF45 v)
      ∧ (s.ppu.lcdOn = true → updated s.ppuTick)

/-- A tick of the PPU.  With the LCD off nothing changes.  With it on the dot and the line move on; the mode, the sprites
taken and the length of PixelTransfer change where the new position says, VBlank's first dot marks the frame ready, and no
register of the PPU changes; the one pixel that changes is that of the processed dot in PixelTransfer, `Pixel(dot - 80, LY)`
at `FB[LY][dot - 80]`.  So a line whose registers, VRAM and OAM no access moves is drawn whole in the 160 ticks from dot
80 (R421, R422, R433, R434, R436).  That `MODE3_EXTRA` is a table of 22 entries is the model's form of the parameter (log
entry 10). -/
def Obligations.PpuTick : Prop :=
  ∀ s : State, s.ppu.Inv →
    let p := s.ppu
    let t := s.ppuTick
    let ly := if p.dot = 455 then (p.ly + 1) % 154 else p.ly
    let dot := (p.dot + 1) % 456
    let selects := decide (ly < 144) && decide (dot = 80)
    let sprites := p.selectSprites s.mem.oam
    let window := if p.lcdc.getLsbD 5 && decide (p.wy.toNat ≤ p.ly) && decide (p.wx.toNat ≤ 166) then 1 else 0
    (p.lcdOn = false → t = s)
      ∧ (p.lcdOn = true →
        t = { s with ppu := t.ppu, irq := t.irq }
          ∧ t.ppu = { p with
            ly := ly
            dot := dot
            mode := if 144 ≤ ly then (if ly = 144 ∧ dot = 0 then .vblank else p.mode)
              else if dot = 0 then .oamScan else if dot = 80 then .pixelTransfer
              else if dot = 80 + p.mode3Len then .hblank else p.mode
            lineSprites := if selects then sprites else p.lineSprites
            mode3Len := if selects then 172 + min 204 (s.cfg.mode3Extra.getD (sprites.length + 11 * window) 0)
              else p.mode3Len
            frameReady := p.frameReady || (decide (ly = 144) && decide (dot = 0))
            statLine := t.ppu.statLine
            fb := t.ppu.fb }
          ∧ (∀ x y, x < 160 → t.shade x y =
            if p.mode = .pixelTransfer ∧ p.dot = 80 + x ∧ p.ly = y then p.pixel s.mem.vram s.mem.oam x y else s.shade x y)
          ∧ (p.mode = .pixelTransfer → p.dot = 80 → s.dma.active = false →
            ∀ x, x < 160 → (s.advance 160).shade x p.ly = p.pixel s.mem.vram s.mem.oam x p.ly))

/-- Sprite selection: at most ten entries, each covering the line, with no entry twice, ordered by X and then by index;
an entry that covers the line is left out only if ten of lower index were taken (R433). -/
def Obligations.SpriteSelection : Prop :=
  ∀ (p : Ppu) (oam : Memory),
    let covers := fun n : Nat => n < 40 ∧ (Cells.read oam (4 * n)).toNat ≤ p.ly + 16
      ∧ p.ly + 16 < (Cells.read oam (4 * n)).toNat + (if p.lcdc.getLsbD 2 then 16 else 8)
    let x := fun n : Nat => (Cells.read oam (4 * n + 1)).toNat
    let sel := p.selectSprites oam
    sel.length ≤ 10 ∧ (∀ n ∈ sel, covers n)
      ∧ sel.Pairwise (fun m n => x m < x n ∨ (x m = x n ∧ m < n))
      ∧ (∀ n, covers n → n ∉ sel → sel.length = 10 ∧ ∀ m ∈ sel, m < n)

/-- The pixel: the first entry of `line_sprites` whose pixel here is opaque decides, alone: it shows unless it is behind
a background of non-zero index; with sprites off, or no opaque pixel, the background shows through BGP (R430, R440,
R447).  The background's index is 0 with LCDC bit 0 clear, otherwise the two planes' bit of the tile that the window's map,
where the window reaches, or the scrolled background's map names (R441 to R445); an entry's index is that of its tile's row
and column after the flips, where it covers the pixel (R446). -/
def Obligations.PixelPriority : Prop :=
  ∀ (p : Ppu) (vram oam : Memory) (x y : Nat),
    let bg := p.bgWinIndex vram x y
    let clear := fun n : Nat => p.spriteIndex vram oam n x y = none ∨ p.spriteIndex vram oam n x y = some 0
    let attr := fun n : Nat => Cells.read oam (4 * n + 3)
    let at' := fun a : Nat => Cells.read vram (a - 0x8000)
    let planes := fun (row b : Nat) => 2 * ((at' (row + 1)).toNat / 2 ^ b % 2) + (at' row).toNat / 2 ^ b % 2
    let tile := fun t : Nat =>
      if p.lcdc.getLsbD 4 then 0x8000 + 16 * t else if t < 128 then 0x9000 + 16 * t else 0x8800 + 16 * (t - 128)
    let mapped := fun (map px py : Nat) =>
      planes (tile (at' (map + py / 8 * 32 + px / 8)).toNat + 2 * (py % 8)) (7 - px % 8)
    let map := fun bit : Nat => if p.lcdc.getLsbD bit then 0x9C00 else 0x9800
    let h := if p.lcdc.getLsbD 2 then 16 else 8
    (p.lcdc.getLsbD 1 = false ∨ (∀ n ∈ p.lineSprites, clear n) → p.pixel vram oam x y = shadeOf p.bgp bg)
      ∧ (∀ before n after ci, p.lcdc.getLsbD 1 = true → p.lineSprites = before ++ n :: after → (∀ m ∈ before, clear m) →
        p.spriteIndex vram oam n x y = some ci → ci ≠ 0 →
        p.pixel vram oam x y =
          if (attr n).getLsbD 7 = true ∧ bg ≠ 0 then shadeOf p.bgp bg
          else shadeOf (if (attr n).getLsbD 4 then p.obp1 else p.obp0) ci)
      ∧ (∀ (pal : Byte) (ci : Nat), ci < 4 → (shadeOf pal ci).toNat = pal.toNat / 4 ^ ci % 4)
      ∧ bg = (if p.lcdc.getLsbD 0 = false then 0
        else if p.lcdc.getLsbD 5 = true ∧ p.wy.toNat ≤ y ∧ p.wx.toNat ≤ x + 7 then
          mapped (map 6) (x + 7 - p.wx.toNat) (y - p.wy.toNat)
        else mapped (map 3) ((x + p.scx.toNat) % 256) ((y + p.scy.toNat) % 256))
      ∧ ∀ n,
        let top := (Cells.read oam (4 * n)).toNat
        let left := (Cells.read oam (4 * n + 1)).toNat
        let number := (Cells.read oam (4 * n + 2)).toNat
        let row := if (attr n).getLsbD 6 then h - 1 - (y + 16 - top) else y + 16 - top
        let column := if (attr n).getLsbD 5 then x + 8 - left else 7 - (x + 8 - left)
        p.spriteIndex vram oam n x y =
          if left ≤ x + 8 ∧ x + 8 < left + 8 ∧ top ≤ y + 16 ∧ y + 16 < top + h then
            some (planes (0x8000 + 16 * (if h = 16 then number - number % 2 else number) + 2 * row) column)
          else none

/-- The APU: NR52 bit 7 from 1 to 0 clears the stored content of every register and every field of every channel and of the
sweep unit, the frame sequencer, the sample counter, the samples and the rest of the machine staying as they were; so each
register reads as its read mask; while it is 0 the registers ignore writes and the mixer is silent; wave RAM is not touched;
a sample is a pair of numbers up to 480 (R470, R478, R500). -/
def Obligations.ApuPowerAndMix : Prop :=
  ∀ (s : State) (v : Byte),
    (s.apu.Inv → (s.apu.mix s.mem.wave).1 ≤ 480 ∧ (s.apu.mix s.mem.wave).2 ≤ 480)
      ∧ (s.apu.power = true → v.getLsbD 7 = false →
        let t := s.busWrite 0xFF26 v
        let silent : Pulse := { enabled := false, ftimer := 0, dutyPos := 0, length := 0, vol := 0, envTimer := 0 }
        t = { s with apu := { s.apu with
            power := false, nr10 := 0, nr11 := 0, nr12 := 0, nr13 := 0, nr14 := 0, nr21 := 0, nr22 := 0, nr23 := 0, nr24 := 0
            nr30 := 0, nr31 := 0, nr32 := 0, nr33 := 0, nr34 := 0, nr41 := 0, nr42 := 0, nr43 := 0, nr44 := 0, nr50 := 0, nr51 := 0
            ch1 := silent, ch2 := silent
            sweep := { timer := 0, enabled := false, shadow := 0 }
            ch3 := { enabled := false, ftimer := 0, pos := 0, length := 0 }
            ch4 := { enabled := false, ftimer := 0, lfsr := 0, length := 0, vol := 0, envTimer := 0 } } }
          ∧ t.apu.mix t.mem.wave = (0, 0)
          ∧ ∀ p ∈ ([(0xFF10, 0x80), (0xFF11, 0x3F), (0xFF12, 0x00), (0xFF13, 0xFF), (0xFF14, 0xBF), (0xFF15, 0xFF),
            (0xFF16, 0x3F), (0xFF17, 0x00), (0xFF18, 0xFF), (0xFF19, 0xBF), (0xFF1A, 0x7F), (0xFF1B, 0xFF), (0xFF1C, 0x9F),
            (0xFF1D, 0xFF), (0xFF1E, 0xBF), (0xFF1F, 0xFF), (0xFF20, 0xFF), (0xFF21, 0x00), (0xFF22, 0x00), (0xFF23, 0xBF),
            (0xFF24, 0x00), (0xFF25, 0x00), (0xFF26, 0x70)] : List (Word × Byte)), t.busRead p.1 = p.2)
      ∧ (s.apu.power = false →
        s.apu.mix s.mem.wave = (0, 0) ∧ ∀ a : Word, 0xFF10 ≤ a.toNat → a.toNat < 0xFF26 → s.busWrite a v = s)

/-- A trigger (NRx4 bit 7 written 1 with the APU on), and all that it changes.  The length enable and frequency bits are
stored; the channel is enabled exactly if its DAC is on, an empty length counter is refilled, the frequency timer and,
where there is one, the volume and the envelope timer are loaded; channel 1's sweep unit is loaded too, and a sweep that
would overflow at once disables the channel; channel 3 starts at sample 0, channel 4 with all LFSR bits set (R490 to
R496).  For channel 3 already playing this is the contract of R495, no claim about the hardware
(93_implementation_defined.md G-WAVE). -/
def Obligations.ApuTriggers : Prop :=
  ∀ (s : State) (v : Byte), s.apu.power = true → v.getLsbD 7 = true →
    let a := s.apu
    let freq := fun low : Byte => v.toNat % 8 * 256 + low.toNat
    let refill := fun (full n : Nat) => if n = 0 then full else n
    let eight := fun n : Nat => if n = 0 then 8 else n
    let pulse := fun (c : Pulse) (nrx2 nrx3 : Byte) => { c with
      enabled := decide (8 ≤ nrx2.toNat)
      length := refill 64 c.length
      ftimer := (2048 - freq nrx3) * 4
      vol := nrx2.toNat / 16
      envTimer := eight (nrx2.toNat % 8) }
    let period := a.nr10.toNat / 16 % 8
    let shift := a.nr10.toNat % 8
    let overflows := shift ≠ 0 ∧ a.nr10.getLsbD 3 = false ∧ 2047 < freq a.nr13 + freq a.nr13 / 2 ^ shift
    let one := pulse a.ch1 a.nr12 a.nr13
    let divisor := a.nr43.toNat % 8
    s.busWrite 0xFF14 v = { s with apu := { a with
        nr14 := v &&& 0x47#8
        ch1 := { one with enabled := one.enabled && !decide overflows }
        sweep := { timer := eight period, enabled := decide (period ≠ 0 ∨ shift ≠ 0), shadow := BitVec.ofNat 11 (freq a.nr13) } } }
      ∧ s.busWrite 0xFF19 v = { s with apu := { a with nr24 := v &&& 0x47#8, ch2 := pulse a.ch2 a.nr22 a.nr23 } }
      ∧ s.busWrite 0xFF1E v = { s with apu := { a with
        nr34 := v &&& 0x47#8
        ch3 := { enabled := a.nr30.getLsbD 7, ftimer := (2048 - freq a.nr33) * 2, pos := 0, length := refill 256 a.ch3.length } } }
      ∧ s.busWrite 0xFF23 v = { s with apu := { a with
        nr44 := v &&& 0x40#8
        ch4 := { enabled := decide (8 ≤ a.nr42.toNat), ftimer := (if divisor = 0 then 8 else 16 * divisor) * 2 ^ (a.nr43.toNat / 16),
                 lfsr := BitVec.allOnes 15, length := refill 64 a.ch4.length, vol := a.nr42.toNat / 16,
                 envTimer := eight (a.nr42.toNat % 8) } } }

/-- The APU's registers and wave RAM.  Each register reads as its stored bits under its mask, NR52 as the power bit and the
four channels' states.  With the APU on, a write that triggers nothing stores its bits, a length load sets the counter, a
DAC switched off disables its channel, and nothing else changes.  NR52 has one writable bit: switched on, the frame
sequencer starts over.  Wave RAM is plain storage at all times, its byte `k` at 0xFF30 + `k` (R470, R473 to R479, R497).  That the length-load bits stay
among the stored bits, where nothing reads them, is the model's reading (log entry 13). -/
def Obligations.ApuRegisters : Prop :=
  ∀ (s : State) (v : Byte),
    let a := s.apu
    let dac := decide (8 ≤ v.toNat)
    let stores := fun (r : Word) (b : Apu) => s.busWrite r v = { s with apu := b }
    (∀ q ∈ ([(0xFF10, a.nr10, 0x80), (0xFF11, a.nr11, 0x3F), (0xFF12, a.nr12, 0x00), (0xFF13, a.nr13, 0xFF), (0xFF14, a.nr14, 0xBF),
        (0xFF16, a.nr21, 0x3F), (0xFF17, a.nr22, 0x00), (0xFF18, a.nr23, 0xFF), (0xFF19, a.nr24, 0xBF), (0xFF1A, a.nr30, 0x7F),
        (0xFF1B, a.nr31, 0xFF), (0xFF1C, a.nr32, 0x9F), (0xFF1D, a.nr33, 0xFF), (0xFF1E, a.nr34, 0xBF), (0xFF20, a.nr41, 0xFF),
        (0xFF21, a.nr42, 0x00), (0xFF22, a.nr43, 0x00), (0xFF23, a.nr44, 0xBF), (0xFF24, a.nr50, 0x00), (0xFF25, a.nr51, 0x00)] :
        List (Word × Byte × Byte)), s.busRead q.1 = q.2.1 ||| q.2.2)
      ∧ s.busRead 0xFF26 = BitVec.ofNat 8 (0x70 + 128 * a.power.toNat + 8 * a.ch4.enabled.toNat + 4 * a.ch3.enabled.toNat
        + 2 * a.ch2.enabled.toNat + a.ch1.enabled.toNat)
      ∧ (a.power = true →
        stores 0xFF10 { a with nr10 := v &&& 0x7F#8 }
          ∧ stores 0xFF11 { a with nr11 := v, ch1 := { a.ch1 with length := 64 - v.toNat % 64 } }
          ∧ stores 0xFF12 { a with nr12 := v, ch1 := { a.ch1 with enabled := a.ch1.enabled && dac } }
          ∧ stores 0xFF13 { a with nr13 := v }
          ∧ stores 0xFF16 { a with nr21 := v, ch2 := { a.ch2 with length := 64 - v.toNat % 64 } }
          ∧ stores 0xFF17 { a with nr22 := v, ch2 := { a.ch2 with enabled := a.ch2.enabled && dac } }
          ∧ stores 0xFF18 { a with nr23 := v }
          ∧ stores 0xFF1A { a with nr30 := v &&& 0x80#8, ch3 := { a.ch3 with enabled := a.ch3.enabled && v.getLsbD 7 } }
          ∧ stores 0xFF1B { a with nr31 := v, ch3 := { a.ch3 with length := 256 - v.toNat } }
          ∧ stores 0xFF1C { a with nr32 := v &&& 0x60#8 } ∧ stores 0xFF1D { a with nr33 := v }
          ∧ stores 0xFF20 { a with nr41 := v &&& 0x3F#8, ch4 := { a.ch4 with length := 64 - v.toNat % 64 } }
          ∧ stores 0xFF21 { a with nr42 := v, ch4 := { a.ch4 with enabled := a.ch4.enabled && dac } }
          ∧ stores 0xFF22 { a with nr43 := v } ∧ stores 0xFF24 { a with nr50 := v } ∧ stores 0xFF25 { a with nr51 := v }
          ∧ (v.getLsbD 7 = false →
            stores 0xFF14 { a with nr14 := v &&& 0x47#8 } ∧ stores 0xFF19 { a with nr24 := v &&& 0x47#8 }
              ∧ stores 0xFF1E { a with nr34 := v &&& 0x47#8 } ∧ stores 0xFF23 { a with nr44 := v &&& 0x40#8 }))
      ∧ (v.getLsbD 7 = a.power → stores 0xFF26 a)
      ∧ (v.getLsbD 7 = true → a.power = false → stores 0xFF26 { a with power := true, fsCount := 0, fsStep := 0 })
      ∧ ∀ w : Word, 0xFF30 ≤ w.toNat → w.toNat < 0xFF40 → s.MemInv →
        let u := s.busWrite w v
        u = { s with mem := { s.mem with wave := u.mem.wave } } ∧ s.busRead w = Cells.read s.mem.wave (w.toNat - 0xFF30) ∧ u.busRead w = v ∧ ∀ b, b ≠ w → u.busRead b = s.busRead b

/-- A tick of the APU.  With it on, the frame counter counts to 8192 and then runs a frame-sequencer step, and each channel's
timer counts down and, run out, reloads its period and moves the channel on: a duty position, a sample, a clock of the LFSR;
with it off none of that moves.  On or off, every `SAMPLE_PERIOD` ticks the mixer's pair is appended to the samples, the
sums of the channels' outputs that NR51 routes, scaled by NR50 (R485, R490 to R493, R500). -/
def Obligations.ApuTick : Prop :=
  ∀ s : State,
    let a := s.apu
    let b := if a.fsCount + 1 = 8192 then Apu.frameStep { a with fsCount := 0 } else { a with fsCount := a.fsCount + 1 }
    let freq := fun low high : Byte => high.toNat % 8 * 256 + low.toNat
    let pulse := fun (c : Pulse) (f : Nat) =>
      if c.ftimer ≤ 1 then { c with ftimer := (2048 - f) * 4, dutyPos := (c.dutyPos + 1) % 8 }
      else { c with ftimer := c.ftimer - 1 }
    let divisor := b.nr43.toNat % 8
    let old := b.ch4.lfsr
    let bit := BitVec.ofBool (old.getLsbD 0 != old.getLsbD 1)
    let lfsr : BitVec 15 :=
      if b.nr43.getLsbD 3 then bit ++ old.extractLsb' 8 7 ++ bit ++ old.extractLsb' 1 6 else bit ++ old.extractLsb' 1 14
    let moved := if a.power then { b with
        ch1 := pulse b.ch1 (freq b.nr13 b.nr14)
        ch2 := pulse b.ch2 (freq b.nr23 b.nr24)
        ch3 := if b.ch3.ftimer ≤ 1 then
            { b.ch3 with ftimer := (2048 - freq b.nr33 b.nr34) * 2, pos := (b.ch3.pos + 1) % 32 }
          else { b.ch3 with ftimer := b.ch3.ftimer - 1 }
        ch4 := if b.ch4.ftimer ≤ 1 then
            { b.ch4 with ftimer := (if divisor = 0 then 8 else 16 * divisor) * 2 ^ (b.nr43.toNat / 16), lfsr := lfsr }
          else { b.ch4 with ftimer := b.ch4.ftimer - 1 } }
      else a
    let duty := fun (nrx1 : Byte) (pos : Nat) => ([[0, 0, 0, 0, 0, 0, 0, 1], [1, 0, 0, 0, 0, 0, 0, 1], [1, 0, 0, 0, 0, 1, 1, 1],
      [0, 1, 1, 1, 1, 1, 1, 0]].getD (nrx1.toNat / 64) []).getD pos 0
    let tone := fun (c : Pulse) (nrx1 nrx2 : Byte) =>
      if c.enabled = true ∧ 8 ≤ nrx2.toNat then duty nrx1 c.dutyPos * c.vol else 0
    let nibbles := (Cells.read s.mem.wave (a.ch3.pos / 2)).toNat
    let wave := if a.ch3.enabled = true ∧ a.nr30.getLsbD 7 = true then
        (if a.ch3.pos % 2 = 0 then nibbles / 16 else nibbles % 16) / 2 ^ [4, 0, 1, 2].getD (a.nr32.toNat / 32 % 4) 0
      else 0
    let noise := if a.ch4.enabled = true ∧ 8 ≤ a.nr42.toNat then (if a.ch4.lfsr.getLsbD 0 then 0 else a.ch4.vol) else 0
    let routed := fun (k n : Nat) => if a.nr51.getLsbD k then n else 0
    let sum := fun k : Nat => routed k (tone a.ch1 a.nr11 a.nr12) + routed (k + 1) (tone a.ch2 a.nr21 a.nr22)
      + routed (k + 2) wave + routed (k + 3) noise
    s.apuTick = { s with apu :=
        if a.sampleCount + 1 = s.cfg.samplePeriod then
          { moved with sampleCount := 0, audioOut := a.audioOut ++ [moved.mix s.mem.wave] }
        else { moved with sampleCount := a.sampleCount + 1 } }
      ∧ a.mix s.mem.wave = if a.power then (sum 4 * (a.nr50.toNat / 16 % 8 + 1), sum 0 * (a.nr50.toNat % 8 + 1)) else (0, 0)

/-- A step of the frame sequencer, and all that it changes: lengths on steps 0, 2, 4 and 6, a channel whose enabled counter
runs out being disabled; the sweep of channel 1 on 2 and 6, after the lengths, with its two overflow checks; envelopes on
step 7; nothing but the step number on 1, 3 and 5 (R486 to R489). -/
def Obligations.FrameSequencer : Prop :=
  ∀ a : Apu,
    let k := a.fsStep
    let len := fun (nrx4 : Byte) (n : Nat) => if nrx4.getLsbD 6 then n - 1 else n
    let on := fun (nrx4 : Byte) (n : Nat) (e : Bool) => e && !(nrx4.getLsbD 6 && decide (n = 1))
    let lengths : Apu := { a with
      fsStep := k + 1
      ch1 := { a.ch1 with length := len a.nr14 a.ch1.length, enabled := on a.nr14 a.ch1.length a.ch1.enabled }
      ch2 := { a.ch2 with length := len a.nr24 a.ch2.length, enabled := on a.nr24 a.ch2.length a.ch2.enabled }
      ch3 := { a.ch3 with length := len a.nr34 a.ch3.length, enabled := on a.nr34 a.ch3.length a.ch3.enabled }
      ch4 := { a.ch4 with length := len a.nr44 a.ch4.length, enabled := on a.nr44 a.ch4.length a.ch4.enabled } }
    let period := a.nr10.toNat / 16 % 8
    let shift := a.nr10.toNat % 8
    let moved := fun x : Nat => if a.nr10.getLsbD 3 then x - x / 2 ^ shift else x + x / 2 ^ shift
    let new := moved a.sweep.shadow.toNat
    let fits := fun x : Nat => { lengths.ch1 with enabled := lengths.ch1.enabled && decide (x ≤ 2047) }
    let reloaded := { a.sweep with timer := if period = 0 then 8 else period }
    let swept : Apu :=
      if 1 < a.sweep.timer then { lengths with sweep := { a.sweep with timer := a.sweep.timer - 1 } }
      else if a.sweep.enabled = false ∨ period = 0 then { lengths with sweep := reloaded }
      else if shift = 0 ∨ 2047 < new then { lengths with sweep := reloaded, ch1 := fits new }
      else { lengths with
        sweep := { reloaded with shadow := BitVec.ofNat 11 new }
        nr13 := BitVec.ofNat 8 new
        nr14 := (a.nr14 &&& 0xF8#8) ||| BitVec.ofNat 8 (new / 256)
        ch1 := fits (moved new) }
    let vol := fun (nrx2 : Byte) (timer v : Nat) =>
      if nrx2.toNat % 8 = 0 ∨ 1 < timer then v
      else if nrx2.getLsbD 3 then (if v < 15 then v + 1 else v) else v - 1
    let timer := fun (nrx2 : Byte) (t : Nat) =>
      if nrx2.toNat % 8 = 0 then t else if 1 < t then t - 1 else nrx2.toNat % 8
    (k = 1 ∨ k = 3 ∨ k = 5 → a.frameStep = { a with fsStep := k + 1 })
      ∧ (k = 0 ∨ k = 4 → a.frameStep = lengths)
      ∧ (k = 2 ∨ k = 6 → a.frameStep = swept)
      ∧ (k = 7 → a.frameStep = { a with
        fsStep := 0
        ch1 := { a.ch1 with vol := vol a.nr12 a.ch1.envTimer a.ch1.vol, envTimer := timer a.nr12 a.ch1.envTimer }
        ch2 := { a.ch2 with vol := vol a.nr22 a.ch2.envTimer a.ch2.vol, envTimer := timer a.nr22 a.ch2.envTimer }
        ch4 := { a.ch4 with vol := vol a.nr42 a.ch4.envTimer a.ch4.vol, envTimer := timer a.nr42 a.ch4.envTimer } })

/-- ROM and its banks.  The first window reads bank 0, the second the mapped bank, which is below the bank count.  Each
controller's ports set their registers and nothing else, and the mapped bank is computed from them: an MBC1 or MBC3 write of
bank 0 is bank 1 before the modulo, MBC5 has bank 0 and nine bits in two ports; kind None maps bank 1 and takes no write
(R62, R63, R86, R88, R89, R91). -/
def Obligations.BankMapping : Prop :=
  ∀ (s : State) (a : Word) (v : Byte),
    let c := s.cart
    let bank := mapRomBank s.cfg c
    let port := fun (first last : Nat) (d : Cart) =>
      first ≤ a.toNat → a.toNat ≤ last → s.busWrite a v = { s with cart := d }
    (2 ≤ s.cfg.romBanks → bank < s.cfg.romBanks)
      ∧ (a.toNat < 0x4000 → s.busRead a = Cells.read s.mem.rom a.toNat)
      ∧ (0x4000 ≤ a.toNat → a.toNat < 0x8000 → s.busRead a = Cells.read s.mem.rom (bank * 0x4000 + (a.toNat - 0x4000)))
      ∧ (s.cfg.cartKind = .none → bank = 1 ∧ port 0x0000 0x7FFF c)
      ∧ (s.cfg.cartKind = .mbc1 →
        bank = ((if c.mbc1Mode then 0 else c.mbc1Hi2.toNat) * 32 + c.romBank5.toNat) % s.cfg.romBanks
          ∧ port 0x2000 0x3FFF { c with romBank5 := if v.toNat % 32 = 0 then 1 else BitVec.ofNat 5 (v.toNat % 32) }
          ∧ port 0x4000 0x5FFF { c with mbc1Hi2 := BitVec.ofNat 2 (v.toNat % 4) }
          ∧ port 0x6000 0x7FFF { c with mbc1Mode := v.getLsbD 0 })
      ∧ (s.cfg.cartKind = .mbc3 →
        bank = c.romBank7.toNat % s.cfg.romBanks
          ∧ port 0x2000 0x3FFF { c with romBank7 := if v.toNat % 128 = 0 then 1 else BitVec.ofNat 7 (v.toNat % 128) }
          ∧ port 0x4000 0x5FFF { c with mbc3Sel := BitVec.ofNat 4 (v.toNat % 16) })
      ∧ (s.cfg.cartKind = .mbc5 →
        bank = c.romBank9.toNat % s.cfg.romBanks
          ∧ port 0x2000 0x2FFF { c with romBank9 := BitVec.ofNat 9 (c.romBank9.toNat / 256 * 256 + v.toNat) }
          ∧ port 0x3000 0x3FFF { c with romBank9 := BitVec.ofNat 9 (v.toNat % 2 * 256 + c.romBank9.toNat % 256) }
          ∧ port 0x4000 0x5FFF { c with ramBank4 := BitVec.ofNat 4 (v.toNat % 16) }
          ∧ port 0x6000 0x7FFF c)

/-- The external-RAM window: closed (reads 0xFF, writes nothing) while RAM is disabled, where the cartridge has none, and
for kind None; every address of the enable port opens it on a low nibble of 0xA; open, MBC1 and MBC5 reach the mapped bank
and MBC3 a bank, a latched clock register, or nothing, as the select register says; every address of MBC3's latch port
takes the live registers on 0x00 followed by 0x01 (R65, R86, R87, R88, R89, R90, R91).  That a cartridge without RAM closes
the clock registers too is the model's reading (log entry 5). -/
def Obligations.ExternalRamWindow : Prop :=
  ∀ (s : State) (a b b' : Word) (v : Byte), s.MemInv → 0xA000 ≤ a.toNat → a.toNat < 0xC000 →
    let c := s.cart
    let sel := c.mbc3Sel.toNat
    let cell := fun bank : Nat => bank % s.cfg.ramBanks * 0x2000 + (a.toNat - 0xA000)
    let opened := c.ramEnable = true ∧ s.cfg.ramBanks ≠ 0
    let closed := s.busRead a = 0xFF ∧ s.busWrite a v = s
    let u := s.busWrite a v
    let isRam := fun bank : Nat => s.busRead a = Cells.read s.mem.eram (cell bank)
      ∧ u = { s with mem := { s.mem with eram := u.mem.eram } } ∧ u.busRead a = v
      ∧ ∀ k, k ≠ cell bank → Cells.read u.mem.eram k = Cells.read s.mem.eram k
    let registers := fun r : Rtc => [r.seconds, r.minutes, r.hours, r.dayLow, r.dayHigh]
    (¬opened ∨ s.cfg.cartKind = .none → closed)
      ∧ (s.cfg.cartKind ≠ .none → b.toNat < 0x2000 →
        s.busWrite b v = { s with cart := { c with ramEnable := decide (v.toNat % 16 = 0xA) } })
      ∧ (opened → s.cfg.cartKind = .mbc1 → isRam (if c.mbc1Mode then c.mbc1Hi2.toNat else 0))
      ∧ (opened → s.cfg.cartKind = .mbc5 → isRam c.ramBank4.toNat)
      ∧ (opened → s.cfg.cartKind = .mbc3 → sel ≤ 3 → isRam sel)
      ∧ (opened → s.cfg.cartKind = .mbc3 → (4 ≤ sel ∧ sel ≤ 7) ∨ 13 ≤ sel → closed)
      ∧ (opened → s.cfg.cartKind = .mbc3 → 8 ≤ sel → sel ≤ 12 →
        s.busRead a = (registers c.rtcLatched).getD (sel - 8) 0
          ∧ ∃ live, u = { s with cart := { c with rtcLive := live } }
            ∧ registers live = (registers c.rtcLive).set (sel - 8) v)
      ∧ (s.cfg.cartKind = .mbc3 → 0x6000 ≤ b.toNat → b.toNat < 0x8000 →
        s.busWrite b v = { s with cart := { c with
            rtcLatched := if c.rtcLatchState = 0x00 ∧ v = 0x01 then c.rtcLive else c.rtcLatched
            rtcLatchState := v } }
          ∧ (0x6000 ≤ b'.toNat → b'.toNat < 0x8000 → opened → 8 ≤ sel → sel ≤ 12 →
            ((s.busWrite b 0x00).busWrite b' 0x01).busRead a = (registers c.rtcLive).getD (sel - 8) 0))

/-! ## Invariants -/

/-- The invariant holds of every machine that a configuration gives, and of the model's reset state. -/
def Obligations.InvariantAtReset : Prop :=
  State.reset.Inv ∧ ∀ (c : Sys2Proof.Config) (s : State), powerOn c = .next s → s.Inv

/-- Every step keeps the invariant: the memories' canonical form, the PPU's position, mode and ranges, the transfer's
counters, the APU's ranges, the bank registers that are never 0, the fault record behind a terminal mark (R46, R88, R89,
R360, R420, R422, R480 to R483). -/
def Obligations.StepKeepsInvariant : Prop :=
  ∀ s t : State, s.Inv → step s = .next t → t.Inv

/-- Every action of the host keeps the invariant, and none changes more than its own: the buttons and the Joypad request; the frame
mark, which it reads and clears; the samples, which it takes; external RAM, which then holds the image.  Every other part
of the machine, registers, memory and devices, stays as it was (R372, R412). -/
def Obligations.HostKeepsInvariant : Prop :=
  ∀ (s : State) (mask : Byte) (image : List Host.Cell), s.Inv →
    ((s.setButtons mask).Inv ∧ s.takeFrame.2.Inv ∧ s.drainAudio.2.Inv ∧ (s.replaceEram image).Inv)
      ∧ s.setButtons mask = { s with
        joypad := { s.joypad with buttons := mask }
        irq := { s.irq with flags := if mask &&& ~~~s.joypad.buttons ≠ 0 then s.irq.flags ||| 0b10000#5 else s.irq.flags } }
      ∧ s.takeFrame = (s.ppu.frameReady, { s with ppu := { s.ppu with frameReady := false } })
      ∧ s.drainAudio = (s.apu.audioOut, { s with apu := { s.apu with audioOut := [] } })
      ∧ s.replaceEram image = { s with mem := { s.mem with eram := (s.replaceEram image).mem.eram } }
      ∧ (Cells.wf image = true → Cells.below (s.cfg.ramBanks * 0x2000) image = true → (s.replaceEram image).mem.eram = image)
end

