-- ==== Sys2Proof/Laws/Apu.lean ====
section
/-! SUPPORT. The fields of the APU's registers and its periods as arithmetic on the registers' numbers. -/

namespace Sys2Proof.Machine

open Sys2Proof

theorem dacOn_eq : ∀ v : Byte, dacOn v = decide (8 ≤ v.toNat) := by decide
theorem lengthLoad_eq : ∀ v : Byte, lengthLoad v = 64 - v.toNat % 64 := by decide
theorem initialVolume_eq : ∀ v : Byte, initialVolume v = v.toNat / 16 := by decide
theorem envelopePeriod_eq : ∀ v : Byte, envelopePeriod v = v.toNat % 8 := by decide
theorem toNat_storedNrx4_mod : ∀ v : Byte, (storedNrx4 v).toNat % 8 = v.toNat % 8 := by decide

theorem sweepPeriod_eq (a : Apu) : a.sweepPeriod = a.nr10.toNat / 16 % 8 := by
  unfold Apu.sweepPeriod
  generalize a.nr10 = x
  revert x
  decide

theorem sweepShift_eq (a : Apu) : a.sweepShift = a.nr10.toNat % 8 := by
  unfold Apu.sweepShift
  generalize a.nr10 = x
  revert x
  decide

theorem frequency_eq (low high : Byte) : frequency low high = high.toNat % 8 * 256 + low.toNat := by
  unfold frequency
  rw [BitVec.toNat_append, ← Nat.shiftLeft_add_eq_or_of_lt low.isLt, Nat.shiftLeft_eq]
  simp

theorem noisePeriod_eq (v : Byte) :
    noisePeriod v = (if v.toNat % 8 = 0 then 8 else 16 * (v.toNat % 8)) * 2 ^ (v.toNat / 16) := by
  have h1 : ∀ x : Byte, (x.extractLsb' 0 3).toNat = x.toNat % 8 := by decide
  have h2 : ∀ x : Byte, (x.extractLsb' 4 4).toNat = x.toNat / 16 := by decide
  simp only [noisePeriod, Nat.shiftLeft_eq, h1, h2]

theorem sweepNew_eq (a : Apu) : a.sweepNew =
    if a.nr10.getLsbD 3 then a.sweep.shadow.toNat - a.sweep.shadow.toNat / 2 ^ (a.nr10.toNat % 8)
    else a.sweep.shadow.toNat + a.sweep.shadow.toNat / 2 ^ (a.nr10.toNat % 8) := by
  simp only [Apu.sweepNew, Nat.shiftRight_eq_div_pow, sweepShift_eq]
  rfl

/-- A length clock, of the counter and of the enable bit (63_apu.md R487). -/
theorem lengthAfter_eq (nrx4 : Byte) (n : Nat) : lengthAfter nrx4 n = if nrx4.getLsbD 6 then n - 1 else n := by
  unfold lengthAfter lengthClocks lengthEnable
  cases nrx4.getLsbD 6 <;> simp
  omega

theorem staysEnabled_eq (nrx4 : Byte) (n : Nat) (e : Bool) :
    staysEnabled nrx4 n e = (e && !(nrx4.getLsbD 6 && decide (n = 1))) := by
  unfold staysEnabled lengthClocks lengthEnable
  cases nrx4.getLsbD 6 <;> cases e <;> simp
  by_cases h : 0 < n <;> simp [h] <;> omega

/-- What a write of a powered APU's register is (63_apu.md R470). -/
theorem apuWrite_powered (s : State) (r : IoReg) (v : Byte) (h : s.apu.power = true) :
    s.apuWrite r v = { s with apu := s.apu.writePowered r v } := by
  unfold State.apuWrite
  rw [h]
  rfl

end Sys2Proof.Machine
end

