-- ==== Sys2Proof/Laws/Bits.lean ====
section
/-! SUPPORT. The byte-order helpers as arithmetic, and what they undo. -/

namespace Sys2Proof

/-- A joined word as a number. -/
theorem toNat_joinBytes (lo hi : Byte) : (joinBytes lo hi).toNat = hi.toNat * 256 + lo.toNat := by
  have h : (joinBytes lo hi).toNat = hi.toNat <<< 8 ||| lo.toNat := BitVec.toNat_append hi lo
  rw [h, ← Nat.shiftLeft_add_eq_or_of_lt lo.isLt, Nat.shiftLeft_eq]

/-- The low byte as a number. -/
theorem toNat_loByte (v : Word) : (loByte v).toNat = v.toNat % 256 := by simp [loByte]

/-- The high byte as a number. -/
theorem toNat_hiByte (v : Word) : (hiByte v).toNat = v.toNat / 256 := by
  have := v.isLt
  simp [hiByte, Nat.shiftRight_eq_div_pow]
  omega

@[simp] theorem loByte_joinBytes (lo hi : Byte) : loByte (joinBytes lo hi) = lo := by
  apply BitVec.eq_of_toNat_eq
  have := lo.isLt
  rw [toNat_loByte, toNat_joinBytes]
  omega

@[simp] theorem hiByte_joinBytes (lo hi : Byte) : hiByte (joinBytes lo hi) = hi := by
  apply BitVec.eq_of_toNat_eq
  have := lo.isLt
  rw [toNat_hiByte, toNat_joinBytes]
  omega

@[simp] theorem joinBytes_loByte_hiByte (v : Word) : joinBytes (loByte v) (hiByte v) = v := by
  apply BitVec.eq_of_toNat_eq
  rw [toNat_joinBytes, toNat_loByte, toNat_hiByte]
  omega

/-- A byte below 256 written as a number is zero exactly when the number is. -/
theorem ofNat_byte_eq_zero (n : Nat) : BitVec.ofNat 8 n = 0#8 ↔ n % 256 = 0 := by
  rw [← BitVec.toNat_inj]
  simp

namespace Machine

/-- F's byte keeps the four flags (10_state.md R24). -/
@[simp] theorem ofByte_toByte (f : Flags) : Flags.ofByte f.toByte = f := by
  obtain ⟨z, n, h, c⟩ := f
  cases z <;> cases n <;> cases h <;> cases c <;> rfl

/-- F's low nibble is always zero (10_state.md R24). -/
theorem toByte_lowNibble (f : Flags) : f.toByte &&& 0x0F#8 = 0#8 := by
  obtain ⟨z, n, h, c⟩ := f
  cases z <;> cases n <;> cases h <;> cases c <;> rfl

/-- A byte through F loses its low nibble (10_state.md R24). -/
theorem toByte_ofByte (v : Byte) : (Flags.ofByte v).toByte = v &&& 0xF0#8 := by
  revert v
  decide

end Machine

end Sys2Proof
end

