-- ==== Sys2Proof/Laws/Cells.lean ====
section
/-! SUPPORT. The laws of a backing store: a read after a write, and the canonical form kept. -/

namespace Sys2Proof.Machine

open Sys2Proof

variable {n : Nat}

theorem Cells.wfAbove_mono {lo lo' : Nat} {m : List (Nat × BitVec n)} (h : Cells.wfAbove lo m = true) (hl : lo' ≤ lo) :
    Cells.wfAbove lo' m = true := by
  cases m with
  | nil => rfl
  | cons c m =>
    simp only [Cells.wfAbove, Bool.and_eq_true, decide_eq_true_eq] at h ⊢
    exact ⟨⟨by omega, h.1.2⟩, h.2⟩

/-- A key below every listed key reads as unlisted. -/
theorem Cells.read_of_wfAbove {lo k : Nat} {m : List (Nat × BitVec n)} (h : Cells.wfAbove lo m = true) (hk : k < lo) :
    Cells.read m k = unlisted n := by
  induction m generalizing lo with
  | nil => rfl
  | cons c m ih =>
    obtain ⟨a, v⟩ := c
    simp only [Cells.wfAbove, Bool.and_eq_true, decide_eq_true_eq] at h
    have hne : ¬ k = a := by omega
    rw [Cells.read, if_neg hne]
    exact ih h.2 (by omega)

theorem Cells.read_consUnlessDefault {lo k j : Nat} {v : BitVec n} {m : List (Nat × BitVec n)}
    (h : Cells.wfAbove lo m = true) (hk : k < lo) :
    Cells.read (Cells.consUnlessDefault k v m) j = if j = k then v else Cells.read m j := by
  unfold Cells.consUnlessDefault
  split
  · next hv =>
    split
    · next hj => subst hj; rw [hv]; exact Cells.read_of_wfAbove h hk
    · rfl
  · rfl

theorem Cells.read_write_above {lo k j : Nat} {v : BitVec n} {m : List (Nat × BitVec n)}
    (h : Cells.wfAbove lo m = true) : Cells.read (Cells.write m k v) j = if j = k then v else Cells.read m j := by
  induction m generalizing lo with
  | nil => exact Cells.read_consUnlessDefault (lo := k + 1) rfl (by omega)
  | cons c m ih =>
    obtain ⟨a, w⟩ := c
    have h' := h
    simp only [Cells.wfAbove, Bool.and_eq_true, decide_eq_true_eq] at h
    rw [Cells.write]
    split
    · exact Cells.read_consUnlessDefault (lo := k + 1) (Cells.wfAbove_mono (lo := a) (by
        simp only [Cells.wfAbove, Bool.and_eq_true, decide_eq_true_eq]
        exact ⟨⟨Nat.le_refl a, h.1.2⟩, h.2⟩) (by omega)) (by omega)
    · split
      · next hk =>
        subst hk
        rw [Cells.read_consUnlessDefault h.2 (by omega), Cells.read]
        split <;> rfl
      · rw [Cells.read, Cells.read, ih h.2]
        split
        · next hj => rw [if_neg (by omega)]
        · rfl

/-- A read after a write: the value at the key written, every other key as before. -/
theorem Cells.read_write {k j : Nat} {v : BitVec n} {m : List (Nat × BitVec n)} (h : Cells.wf m = true) :
    Cells.read (Cells.write m k v) j = if j = k then v else Cells.read m j := Cells.read_write_above h

theorem Cells.wfAbove_consUnlessDefault {lo k : Nat} {v : BitVec n} {m : List (Nat × BitVec n)}
    (h : Cells.wfAbove (k + 1) m = true) (hk : lo ≤ k) : Cells.wfAbove lo (Cells.consUnlessDefault k v m) = true := by
  unfold Cells.consUnlessDefault
  split
  · exact Cells.wfAbove_mono h (by omega)
  · next hv => simp only [Cells.wfAbove, Bool.and_eq_true, decide_eq_true_eq]; exact ⟨⟨hk, hv⟩, h⟩

theorem Cells.wfAbove_write {lo k : Nat} {v : BitVec n} {m : List (Nat × BitVec n)} (h : Cells.wfAbove lo m = true)
    (hk : lo ≤ k) : Cells.wfAbove lo (Cells.write m k v) = true := by
  induction m generalizing lo with
  | nil => exact Cells.wfAbove_consUnlessDefault rfl hk
  | cons c m ih =>
    obtain ⟨a, w⟩ := c
    simp only [Cells.wfAbove, Bool.and_eq_true, decide_eq_true_eq] at h
    rw [Cells.write]
    split
    · refine Cells.wfAbove_consUnlessDefault ?_ hk
      simp only [Cells.wfAbove, Bool.and_eq_true, decide_eq_true_eq]
      exact ⟨⟨by omega, h.1.2⟩, h.2⟩
    · split
      · next hka => subst hka; exact Cells.wfAbove_consUnlessDefault h.2 hk
      · simp only [Cells.wfAbove, Bool.and_eq_true, decide_eq_true_eq]
        exact ⟨h.1, ih h.2 (by omega)⟩

/-- A write keeps the canonical form. -/
theorem Cells.wf_write {k : Nat} {v : BitVec n} {m : List (Nat × BitVec n)} (h : Cells.wf m = true) :
    Cells.wf (Cells.write m k v) = true := Cells.wfAbove_write h (Nat.zero_le k)

theorem Cells.below_consUnlessDefault {size k : Nat} {v : BitVec n} {m : List (Nat × BitVec n)}
    (h : Cells.below size m = true) (hk : k < size) : Cells.below size (Cells.consUnlessDefault k v m) = true := by
  unfold Cells.consUnlessDefault
  split
  · exact h
  · simp only [Cells.below, List.all_cons, Bool.and_eq_true, decide_eq_true_eq] at h ⊢; exact ⟨hk, h⟩

/-- A write inside the bounds stays inside them. -/
theorem Cells.below_write {size k : Nat} {v : BitVec n} {m : List (Nat × BitVec n)} (h : Cells.below size m = true)
    (hk : k < size) : Cells.below size (Cells.write m k v) = true := by
  induction m with
  | nil => exact Cells.below_consUnlessDefault h hk
  | cons c m ih =>
    obtain ⟨a, w⟩ := c
    have h2 : a < size ∧ Cells.below size m = true := by
      simpa only [Cells.below, List.all_cons, Bool.and_eq_true, decide_eq_true_eq] using h
    rw [Cells.write]
    split
    · exact Cells.below_consUnlessDefault h hk
    · split
      · exact Cells.below_consUnlessDefault h2.2 hk
      · have := ih h2.2
        simp only [Cells.below, List.all_cons, Bool.and_eq_true, decide_eq_true_eq] at this ⊢
        exact ⟨h2.1, this⟩

theorem Cells.wf_foldl_write (l m : List (Nat × BitVec n)) (h : Cells.wf m = true) :
    Cells.wf (l.foldl (fun m c => Cells.write m c.1 c.2) m) = true := by
  induction l generalizing m with
  | nil => exact h
  | cons c l ih => exact ih _ (Cells.wf_write h)

/-- Any list of pairs has a canonical form. -/
theorem Cells.wf_ofList (l : List (Nat × BitVec n)) : Cells.wf (Cells.ofList l) = true := Cells.wf_foldl_write l [] rfl

theorem Cells.below_foldl_write {size : Nat} (l m : List (Nat × BitVec n)) (h : Cells.below size m = true)
    (hl : Cells.below size l = true) : Cells.below size (l.foldl (fun m c => Cells.write m c.1 c.2) m) = true := by
  induction l generalizing m with
  | nil => exact h
  | cons c l ih =>
    simp only [Cells.below, List.all_cons, Bool.and_eq_true, decide_eq_true_eq] at hl
    exact ih _ (Cells.below_write h hl.1) hl.2

end Sys2Proof.Machine
end

