-- ==== Sys2Proof/Laws/Bus.lean ====
section
/-! SUPPORT. The bus by region: what a read or a write of an I/O register, of wave RAM and of the ROM windows is, and where
the plain memories lie. -/

namespace Sys2Proof.Machine

open Sys2Proof

/-- A read of a mapped I/O address is the register's own read. -/
theorem busRead_io {a : Word} {o : Nat} {r : IoReg} (s : State) (h : regionOf a = .io o) (h' : ioRegAt o = some r) :
    s.busRead a = s.ioRead r := by
  unfold State.busRead
  rw [h]
  dsimp only
  rw [h']

/-- A write of a mapped I/O address is the register's own write. -/
theorem busWrite_io {a : Word} {o : Nat} {r : IoReg} (s : State) (v : Byte) (h : regionOf a = .io o)
    (h' : ioRegAt o = some r) : s.busWrite a v = s.ioWrite r v := by
  unfold State.busWrite
  rw [h]
  dsimp only
  rw [h']

/-- The offset that an I/O region names. -/
theorem regionOf_io {a : Word} {o : Nat} (h : regionOf a = .io o) : o = a.toNat - 0xFF00 ∧ 0xFF00 ≤ a.toNat := by
  unfold regionOf at h
  dsimp only at h
  repeat' split at h
  all_goals first | (simp at h; omega) | simp at h

/-- Only the sixteen offsets from 0x30 are wave RAM (63_apu.md R479). -/
theorem ioRegAt_wave_iff (o i : Nat) : ioRegAt o = some (.wave i) ↔ o = 0x30 + i ∧ i < 16 := by
  constructor
  · intro h
    unfold ioRegAt at h
    split at h <;> simp at h
    omega
  · rintro ⟨rfl, h⟩
    revert i
    decide

/-- An address of wave RAM and its register (63_apu.md R479). -/
theorem waveAt {a : Word} (h1 : 0xFF30 ≤ a.toNat) (h2 : a.toNat < 0xFF40) :
    regionOf a = .io (a.toNat - 0xFF00) ∧ ioRegAt (a.toNat - 0xFF00) = some (.wave (a.toNat - 0xFF30)) := by
  refine ⟨?_, (ioRegAt_wave_iff _ _).2 ⟨by omega, by omega⟩⟩
  unfold regionOf
  simp (disch := omega) only [if_neg, if_pos]

/-- A read of wave RAM. -/
theorem busRead_wave (s : State) {a : Word} (h1 : 0xFF30 ≤ a.toNat) (h2 : a.toNat < 0xFF40) :
    s.busRead a = Cells.read s.mem.wave (a.toNat - 0xFF30) := busRead_io s (waveAt h1 h2).1 (waveAt h1 h2).2

/-- A write of wave RAM. -/
theorem busWrite_wave (s : State) {a : Word} (v : Byte) (h1 : 0xFF30 ≤ a.toNat) (h2 : a.toNat < 0xFF40) :
    s.busWrite a v = { s with mem.wave := Cells.write s.mem.wave (a.toNat - 0xFF30) v } :=
  busWrite_io s v (waveAt h1 h2).1 (waveAt h1 h2).2

/-- The two ROM windows (20_memory.md R62, R63). -/
theorem regionOf_rom {a : Word} (h : a.toNat < 0x8000) :
    regionOf a = if a.toNat < 0x4000 then .rom0 a.toNat else .romX (a.toNat - 0x4000) := by
  unfold regionOf
  dsimp only
  rw [if_pos h]

/-- The addresses of VRAM (20_memory.md R64). -/
theorem regionOf_vram {a : Word} (h1 : 0x8000 ≤ a.toNat) (h2 : a.toNat ≤ 0x9FFF) : regionOf a = .vram (a.toNat - 0x8000) := by
  unfold regionOf
  simp (disch := omega) only [if_neg, if_pos]

/-- The addresses of work RAM (20_memory.md R66). -/
theorem regionOf_wram {a : Word} (h1 : 0xC000 ≤ a.toNat) (h2 : a.toNat ≤ 0xDFFF) : regionOf a = .wram (a.toNat - 0xC000) := by
  unfold regionOf
  simp (disch := omega) only [if_neg, if_pos]

/-- The addresses of OAM (20_memory.md R68). -/
theorem regionOf_oam {a : Word} (h1 : 0xFE00 ≤ a.toNat) (h2 : a.toNat ≤ 0xFE9F) : regionOf a = .oam (a.toNat - 0xFE00) := by
  unfold regionOf
  simp (disch := omega) only [if_neg, if_pos]

/-- The addresses of high RAM (20_memory.md R71). -/
theorem regionOf_hram {a : Word} (h1 : 0xFF80 ≤ a.toNat) (h2 : a.toNat ≤ 0xFFFE) : regionOf a = .hram (a.toNat - 0xFF80) := by
  unfold regionOf
  simp (disch := omega) only [if_neg, if_pos]

/-- A write to ROM is the port write at its address, and nothing else (20_memory.md R62, R63). -/
theorem busWrite_rom (s : State) {a : Word} (v : Byte) (h : a.toNat < 0x8000) :
    s.busWrite a v = { s with cart := s.cart.writePort s.cfg a.toNat v } := by
  have hr := regionOf_rom h
  by_cases h1 : a.toNat < 0x4000
  · rw [if_pos h1] at hr
    unfold State.busWrite
    rw [hr]
  · rw [if_neg h1] at hr
    have hp : 0x4000 + (a.toNat - 0x4000) = a.toNat := by omega
    unfold State.busWrite
    rw [hr]
    exact congrArg (fun p => { s with cart := s.cart.writePort s.cfg p v }) hp

end Sys2Proof.Machine
end

