-- ==== Sys2Proof/Laws/Devices.lean ====
section
/-! SUPPORT. What a tick, and any number of them, leaves alone: only the four devices, IF and OAM move. -/

namespace Sys2Proof.Machine

open Sys2Proof

@[simp] theorem requestIf_enable (q : Irq) (b : Bool) (i : Source) : (q.requestIf b i).enable = q.enable := by
  unfold Irq.requestIf Irq.request
  split <;> rfl

@[simp] theorem tick_cpu (s : State) : s.tick.cpu = s.cpu := rfl
@[simp] theorem tick_serial (s : State) : s.tick.serial = s.serial := rfl
@[simp] theorem tick_joypad (s : State) : s.tick.joypad = s.joypad := rfl
@[simp] theorem tick_cart (s : State) : s.tick.cart = s.cart := rfl
@[simp] theorem tick_cfg (s : State) : s.tick.cfg = s.cfg := rfl
@[simp] theorem tick_t (s : State) : s.tick.t = s.t + 1 := rfl
@[simp] theorem tick_rom (s : State) : s.tick.mem.rom = s.mem.rom := rfl
@[simp] theorem tick_eram (s : State) : s.tick.mem.eram = s.mem.eram := rfl
@[simp] theorem tick_vram (s : State) : s.tick.mem.vram = s.mem.vram := rfl
@[simp] theorem tick_wram (s : State) : s.tick.mem.wram = s.mem.wram := rfl
@[simp] theorem tick_hram (s : State) : s.tick.mem.hram = s.mem.hram := rfl
@[simp] theorem tick_wave (s : State) : s.tick.mem.wave = s.mem.wave := rfl
@[simp] theorem tick_timer (s : State) : s.tick.timer = s.timer.tick := rfl
@[simp] theorem tick_dma (s : State) : s.tick.dma = s.dma.tick := rfl
@[simp] theorem tick_apu (s : State) : s.tick.apu = s.apu.tick s.mem.wave s.cfg.samplePeriod := rfl
@[simp] theorem tick_ie (s : State) : s.tick.irq.enable = s.irq.enable := by
  simp [State.tick, State.apuTick, State.ppuTick, State.dmaTick, State.timerTick]

@[simp] theorem advance_zero (s : State) : s.advance 0 = s := rfl
theorem advance_succ (n : Nat) (s : State) : s.advance (n + 1) = s.tick.advance n := rfl

@[simp] theorem advance_cpu (n : Nat) (s : State) : (s.advance n).cpu = s.cpu := by
  induction n generalizing s with
  | zero => rfl
  | succ n ih => rw [advance_succ, ih, tick_cpu]

@[simp] theorem advance_serial (n : Nat) (s : State) : (s.advance n).serial = s.serial := by
  induction n generalizing s with
  | zero => rfl
  | succ n ih => rw [advance_succ, ih, tick_serial]

@[simp] theorem advance_joypad (n : Nat) (s : State) : (s.advance n).joypad = s.joypad := by
  induction n generalizing s with
  | zero => rfl
  | succ n ih => rw [advance_succ, ih, tick_joypad]

@[simp] theorem advance_cart (n : Nat) (s : State) : (s.advance n).cart = s.cart := by
  induction n generalizing s with
  | zero => rfl
  | succ n ih => rw [advance_succ, ih, tick_cart]

@[simp] theorem advance_cfg (n : Nat) (s : State) : (s.advance n).cfg = s.cfg := by
  induction n generalizing s with
  | zero => rfl
  | succ n ih => rw [advance_succ, ih, tick_cfg]

@[simp] theorem advance_rom (n : Nat) (s : State) : (s.advance n).mem.rom = s.mem.rom := by
  induction n generalizing s with
  | zero => rfl
  | succ n ih => rw [advance_succ, ih, tick_rom]

@[simp] theorem advance_eram (n : Nat) (s : State) : (s.advance n).mem.eram = s.mem.eram := by
  induction n generalizing s with
  | zero => rfl
  | succ n ih => rw [advance_succ, ih, tick_eram]

@[simp] theorem advance_vram (n : Nat) (s : State) : (s.advance n).mem.vram = s.mem.vram := by
  induction n generalizing s with
  | zero => rfl
  | succ n ih => rw [advance_succ, ih, tick_vram]

@[simp] theorem advance_wram (n : Nat) (s : State) : (s.advance n).mem.wram = s.mem.wram := by
  induction n generalizing s with
  | zero => rfl
  | succ n ih => rw [advance_succ, ih, tick_wram]

@[simp] theorem advance_hram (n : Nat) (s : State) : (s.advance n).mem.hram = s.mem.hram := by
  induction n generalizing s with
  | zero => rfl
  | succ n ih => rw [advance_succ, ih, tick_hram]

@[simp] theorem advance_wave (n : Nat) (s : State) : (s.advance n).mem.wave = s.mem.wave := by
  induction n generalizing s with
  | zero => rfl
  | succ n ih => rw [advance_succ, ih, tick_wave]

@[simp] theorem advance_ie (n : Nat) (s : State) : (s.advance n).irq.enable = s.irq.enable := by
  induction n generalizing s with
  | zero => rfl
  | succ n ih => rw [advance_succ, ih, tick_ie]

@[simp] theorem advance_t (n : Nat) (s : State) : (s.advance n).t = s.t + n := by
  induction n generalizing s with
  | zero => rfl
  | succ n ih => rw [advance_succ, ih, tick_t]; omega

/-- Time changes no memory but OAM. -/
theorem advance_mem (n : Nat) (s : State) : (s.advance n).mem = { s.mem with oam := (s.advance n).mem.oam } := by
  simp only [← advance_rom n s, ← advance_eram n s, ← advance_vram n s, ← advance_wram n s, ← advance_hram n s,
    ← advance_wave n s]

theorem tick_idleDma (s : State) (h : s.dma.active = false) : s.tick.dma = s.dma ∧ s.tick.mem.oam = s.mem.oam := by
  refine ⟨by simp [Dma.tick, Dma.copies, h], ?_⟩
  show (if s.dma.copies then _ else s.mem.oam) = s.mem.oam
  simp [Dma.copies, h]

/-- No transfer starts by itself, and without one time does not change OAM. -/
theorem advance_idleDma (n : Nat) (s : State) (h : s.dma.active = false) :
    (s.advance n).dma = s.dma ∧ (s.advance n).mem.oam = s.mem.oam := by
  induction n generalizing s with
  | zero => exact ⟨rfl, rfl⟩
  | succ n ih =>
    have ht := tick_idleDma s h
    have hn := ih s.tick (ht.1.symm ▸ h)
    exact ⟨hn.1.trans ht.1, hn.2.trans ht.2⟩

/-- Time passes whether or not the CPU's registers change first: no tick reads them. -/
theorem advance_setCpu (n : Nat) (s : State) (c : Cpu) :
    State.advance n { s with cpu := c } = { s.advance n with cpu := c } := by
  induction n generalizing s with
  | zero => rfl
  | succ n ih => exact ih s.tick

end Sys2Proof.Machine
end

