-- ==== Sys2Proof/Laws/State.lean ====
section
/-! SUPPORT. What each small update of the state leaves alone and what it writes: one lemma per field and update. -/

namespace Sys2Proof.Machine

open Sys2Proof

@[simp] theorem setReg_irq (s : State) (r : Reg) (v : Byte) : (s.setReg r v).irq = s.irq := rfl
@[simp] theorem setReg_timer (s : State) (r : Reg) (v : Byte) : (s.setReg r v).timer = s.timer := rfl
@[simp] theorem setReg_dma (s : State) (r : Reg) (v : Byte) : (s.setReg r v).dma = s.dma := rfl
@[simp] theorem setReg_ppu (s : State) (r : Reg) (v : Byte) : (s.setReg r v).ppu = s.ppu := rfl
@[simp] theorem setReg_apu (s : State) (r : Reg) (v : Byte) : (s.setReg r v).apu = s.apu := rfl
@[simp] theorem setReg_serial (s : State) (r : Reg) (v : Byte) : (s.setReg r v).serial = s.serial := rfl
@[simp] theorem setReg_joypad (s : State) (r : Reg) (v : Byte) : (s.setReg r v).joypad = s.joypad := rfl
@[simp] theorem setReg_cart (s : State) (r : Reg) (v : Byte) : (s.setReg r v).cart = s.cart := rfl
@[simp] theorem setReg_mem (s : State) (r : Reg) (v : Byte) : (s.setReg r v).mem = s.mem := rfl
@[simp] theorem setReg_cfg (s : State) (r : Reg) (v : Byte) : (s.setReg r v).cfg = s.cfg := rfl
@[simp] theorem setReg_t (s : State) (r : Reg) (v : Byte) : (s.setReg r v).t = s.t := rfl
@[simp] theorem setReg_cpu_f (s : State) (r : Reg) (v : Byte) : (s.setReg r v).cpu.f = s.cpu.f := by cases r <;> rfl
@[simp] theorem setReg_cpu_sp (s : State) (r : Reg) (v : Byte) : (s.setReg r v).cpu.sp = s.cpu.sp := by cases r <;> rfl
@[simp] theorem setReg_cpu_pc (s : State) (r : Reg) (v : Byte) : (s.setReg r v).cpu.pc = s.cpu.pc := by cases r <;> rfl
@[simp] theorem setReg_cpu_ime (s : State) (r : Reg) (v : Byte) : (s.setReg r v).cpu.ime = s.cpu.ime := by cases r <;> rfl
@[simp] theorem setReg_cpu_imePending (s : State) (r : Reg) (v : Byte) : (s.setReg r v).cpu.imePending = s.cpu.imePending := by cases r <;> rfl
@[simp] theorem setReg_cpu_halted (s : State) (r : Reg) (v : Byte) : (s.setReg r v).cpu.halted = s.cpu.halted := by cases r <;> rfl
@[simp] theorem setReg_cpu_haltBug (s : State) (r : Reg) (v : Byte) : (s.setReg r v).cpu.haltBug = s.cpu.haltBug := by cases r <;> rfl
@[simp] theorem setReg_cpu_locked (s : State) (r : Reg) (v : Byte) : (s.setReg r v).cpu.locked = s.cpu.locked := by cases r <;> rfl
@[simp] theorem setReg_cpu_refused (s : State) (r : Reg) (v : Byte) : (s.setReg r v).cpu.refused = s.cpu.refused := by cases r <;> rfl
@[simp] theorem setReg_cpu_record (s : State) (r : Reg) (v : Byte) : (s.setReg r v).cpu.record = s.cpu.record := by cases r <;> rfl
@[simp] theorem setReg_cpu_curAddr (s : State) (r : Reg) (v : Byte) : (s.setReg r v).cpu.curAddr = s.cpu.curAddr := by cases r <;> rfl

@[simp] theorem setPair_irq (s : State) (p : Pair) (v : Word) : (s.setPair p v).irq = s.irq := rfl
@[simp] theorem setPair_timer (s : State) (p : Pair) (v : Word) : (s.setPair p v).timer = s.timer := rfl
@[simp] theorem setPair_dma (s : State) (p : Pair) (v : Word) : (s.setPair p v).dma = s.dma := rfl
@[simp] theorem setPair_ppu (s : State) (p : Pair) (v : Word) : (s.setPair p v).ppu = s.ppu := rfl
@[simp] theorem setPair_apu (s : State) (p : Pair) (v : Word) : (s.setPair p v).apu = s.apu := rfl
@[simp] theorem setPair_serial (s : State) (p : Pair) (v : Word) : (s.setPair p v).serial = s.serial := rfl
@[simp] theorem setPair_joypad (s : State) (p : Pair) (v : Word) : (s.setPair p v).joypad = s.joypad := rfl
@[simp] theorem setPair_cart (s : State) (p : Pair) (v : Word) : (s.setPair p v).cart = s.cart := rfl
@[simp] theorem setPair_mem (s : State) (p : Pair) (v : Word) : (s.setPair p v).mem = s.mem := rfl
@[simp] theorem setPair_cfg (s : State) (p : Pair) (v : Word) : (s.setPair p v).cfg = s.cfg := rfl
@[simp] theorem setPair_t (s : State) (p : Pair) (v : Word) : (s.setPair p v).t = s.t := rfl
@[simp] theorem setPair_cpu_f (s : State) (p : Pair) (v : Word) : (s.setPair p v).cpu.f = s.cpu.f := by cases p <;> rfl
@[simp] theorem setPair_cpu_pc (s : State) (p : Pair) (v : Word) : (s.setPair p v).cpu.pc = s.cpu.pc := by cases p <;> rfl
@[simp] theorem setPair_cpu_ime (s : State) (p : Pair) (v : Word) : (s.setPair p v).cpu.ime = s.cpu.ime := by cases p <;> rfl
@[simp] theorem setPair_cpu_imePending (s : State) (p : Pair) (v : Word) : (s.setPair p v).cpu.imePending = s.cpu.imePending := by cases p <;> rfl
@[simp] theorem setPair_cpu_halted (s : State) (p : Pair) (v : Word) : (s.setPair p v).cpu.halted = s.cpu.halted := by cases p <;> rfl
@[simp] theorem setPair_cpu_haltBug (s : State) (p : Pair) (v : Word) : (s.setPair p v).cpu.haltBug = s.cpu.haltBug := by cases p <;> rfl
@[simp] theorem setPair_cpu_locked (s : State) (p : Pair) (v : Word) : (s.setPair p v).cpu.locked = s.cpu.locked := by cases p <;> rfl
@[simp] theorem setPair_cpu_refused (s : State) (p : Pair) (v : Word) : (s.setPair p v).cpu.refused = s.cpu.refused := by cases p <;> rfl
@[simp] theorem setPair_cpu_record (s : State) (p : Pair) (v : Word) : (s.setPair p v).cpu.record = s.cpu.record := by cases p <;> rfl
@[simp] theorem setPair_cpu_curAddr (s : State) (p : Pair) (v : Word) : (s.setPair p v).cpu.curAddr = s.cpu.curAddr := by cases p <;> rfl

@[simp] theorem setFlags_irq (s : State) (f : Flags) : (s.setFlags f).irq = s.irq := rfl
@[simp] theorem setFlags_timer (s : State) (f : Flags) : (s.setFlags f).timer = s.timer := rfl
@[simp] theorem setFlags_dma (s : State) (f : Flags) : (s.setFlags f).dma = s.dma := rfl
@[simp] theorem setFlags_ppu (s : State) (f : Flags) : (s.setFlags f).ppu = s.ppu := rfl
@[simp] theorem setFlags_apu (s : State) (f : Flags) : (s.setFlags f).apu = s.apu := rfl
@[simp] theorem setFlags_serial (s : State) (f : Flags) : (s.setFlags f).serial = s.serial := rfl
@[simp] theorem setFlags_joypad (s : State) (f : Flags) : (s.setFlags f).joypad = s.joypad := rfl
@[simp] theorem setFlags_cart (s : State) (f : Flags) : (s.setFlags f).cart = s.cart := rfl
@[simp] theorem setFlags_mem (s : State) (f : Flags) : (s.setFlags f).mem = s.mem := rfl
@[simp] theorem setFlags_cfg (s : State) (f : Flags) : (s.setFlags f).cfg = s.cfg := rfl
@[simp] theorem setFlags_t (s : State) (f : Flags) : (s.setFlags f).t = s.t := rfl
@[simp] theorem setFlags_cpu_a (s : State) (f : Flags) : (s.setFlags f).cpu.a = s.cpu.a := rfl
@[simp] theorem setFlags_cpu_b (s : State) (f : Flags) : (s.setFlags f).cpu.b = s.cpu.b := rfl
@[simp] theorem setFlags_cpu_c (s : State) (f : Flags) : (s.setFlags f).cpu.c = s.cpu.c := rfl
@[simp] theorem setFlags_cpu_d (s : State) (f : Flags) : (s.setFlags f).cpu.d = s.cpu.d := rfl
@[simp] theorem setFlags_cpu_e (s : State) (f : Flags) : (s.setFlags f).cpu.e = s.cpu.e := rfl
@[simp] theorem setFlags_cpu_h (s : State) (f : Flags) : (s.setFlags f).cpu.h = s.cpu.h := rfl
@[simp] theorem setFlags_cpu_l (s : State) (f : Flags) : (s.setFlags f).cpu.l = s.cpu.l := rfl
@[simp] theorem setFlags_cpu_sp (s : State) (f : Flags) : (s.setFlags f).cpu.sp = s.cpu.sp := rfl
@[simp] theorem setFlags_cpu_pc (s : State) (f : Flags) : (s.setFlags f).cpu.pc = s.cpu.pc := rfl
@[simp] theorem setFlags_cpu_ime (s : State) (f : Flags) : (s.setFlags f).cpu.ime = s.cpu.ime := rfl
@[simp] theorem setFlags_cpu_imePending (s : State) (f : Flags) : (s.setFlags f).cpu.imePending = s.cpu.imePending := rfl
@[simp] theorem setFlags_cpu_halted (s : State) (f : Flags) : (s.setFlags f).cpu.halted = s.cpu.halted := rfl
@[simp] theorem setFlags_cpu_haltBug (s : State) (f : Flags) : (s.setFlags f).cpu.haltBug = s.cpu.haltBug := rfl
@[simp] theorem setFlags_cpu_locked (s : State) (f : Flags) : (s.setFlags f).cpu.locked = s.cpu.locked := rfl
@[simp] theorem setFlags_cpu_refused (s : State) (f : Flags) : (s.setFlags f).cpu.refused = s.cpu.refused := rfl
@[simp] theorem setFlags_cpu_record (s : State) (f : Flags) : (s.setFlags f).cpu.record = s.cpu.record := rfl
@[simp] theorem setFlags_cpu_curAddr (s : State) (f : Flags) : (s.setFlags f).cpu.curAddr = s.cpu.curAddr := rfl

@[simp] theorem setPc_irq (s : State) (v : Word) : (s.setPc v).irq = s.irq := rfl
@[simp] theorem setPc_timer (s : State) (v : Word) : (s.setPc v).timer = s.timer := rfl
@[simp] theorem setPc_dma (s : State) (v : Word) : (s.setPc v).dma = s.dma := rfl
@[simp] theorem setPc_ppu (s : State) (v : Word) : (s.setPc v).ppu = s.ppu := rfl
@[simp] theorem setPc_apu (s : State) (v : Word) : (s.setPc v).apu = s.apu := rfl
@[simp] theorem setPc_serial (s : State) (v : Word) : (s.setPc v).serial = s.serial := rfl
@[simp] theorem setPc_joypad (s : State) (v : Word) : (s.setPc v).joypad = s.joypad := rfl
@[simp] theorem setPc_cart (s : State) (v : Word) : (s.setPc v).cart = s.cart := rfl
@[simp] theorem setPc_mem (s : State) (v : Word) : (s.setPc v).mem = s.mem := rfl
@[simp] theorem setPc_cfg (s : State) (v : Word) : (s.setPc v).cfg = s.cfg := rfl
@[simp] theorem setPc_t (s : State) (v : Word) : (s.setPc v).t = s.t := rfl
@[simp] theorem setPc_cpu_a (s : State) (v : Word) : (s.setPc v).cpu.a = s.cpu.a := rfl
@[simp] theorem setPc_cpu_b (s : State) (v : Word) : (s.setPc v).cpu.b = s.cpu.b := rfl
@[simp] theorem setPc_cpu_c (s : State) (v : Word) : (s.setPc v).cpu.c = s.cpu.c := rfl
@[simp] theorem setPc_cpu_d (s : State) (v : Word) : (s.setPc v).cpu.d = s.cpu.d := rfl
@[simp] theorem setPc_cpu_e (s : State) (v : Word) : (s.setPc v).cpu.e = s.cpu.e := rfl
@[simp] theorem setPc_cpu_h (s : State) (v : Word) : (s.setPc v).cpu.h = s.cpu.h := rfl
@[simp] theorem setPc_cpu_l (s : State) (v : Word) : (s.setPc v).cpu.l = s.cpu.l := rfl
@[simp] theorem setPc_cpu_f (s : State) (v : Word) : (s.setPc v).cpu.f = s.cpu.f := rfl
@[simp] theorem setPc_cpu_sp (s : State) (v : Word) : (s.setPc v).cpu.sp = s.cpu.sp := rfl
@[simp] theorem setPc_cpu_ime (s : State) (v : Word) : (s.setPc v).cpu.ime = s.cpu.ime := rfl
@[simp] theorem setPc_cpu_imePending (s : State) (v : Word) : (s.setPc v).cpu.imePending = s.cpu.imePending := rfl
@[simp] theorem setPc_cpu_halted (s : State) (v : Word) : (s.setPc v).cpu.halted = s.cpu.halted := rfl
@[simp] theorem setPc_cpu_haltBug (s : State) (v : Word) : (s.setPc v).cpu.haltBug = s.cpu.haltBug := rfl
@[simp] theorem setPc_cpu_locked (s : State) (v : Word) : (s.setPc v).cpu.locked = s.cpu.locked := rfl
@[simp] theorem setPc_cpu_refused (s : State) (v : Word) : (s.setPc v).cpu.refused = s.cpu.refused := rfl
@[simp] theorem setPc_cpu_record (s : State) (v : Word) : (s.setPc v).cpu.record = s.cpu.record := rfl
@[simp] theorem setPc_cpu_curAddr (s : State) (v : Word) : (s.setPc v).cpu.curAddr = s.cpu.curAddr := rfl

@[simp] theorem setSp_irq (s : State) (v : Word) : (s.setSp v).irq = s.irq := rfl
@[simp] theorem setSp_timer (s : State) (v : Word) : (s.setSp v).timer = s.timer := rfl
@[simp] theorem setSp_dma (s : State) (v : Word) : (s.setSp v).dma = s.dma := rfl
@[simp] theorem setSp_ppu (s : State) (v : Word) : (s.setSp v).ppu = s.ppu := rfl
@[simp] theorem setSp_apu (s : State) (v : Word) : (s.setSp v).apu = s.apu := rfl
@[simp] theorem setSp_serial (s : State) (v : Word) : (s.setSp v).serial = s.serial := rfl
@[simp] theorem setSp_joypad (s : State) (v : Word) : (s.setSp v).joypad = s.joypad := rfl
@[simp] theorem setSp_cart (s : State) (v : Word) : (s.setSp v).cart = s.cart := rfl
@[simp] theorem setSp_mem (s : State) (v : Word) : (s.setSp v).mem = s.mem := rfl
@[simp] theorem setSp_cfg (s : State) (v : Word) : (s.setSp v).cfg = s.cfg := rfl
@[simp] theorem setSp_t (s : State) (v : Word) : (s.setSp v).t = s.t := rfl
@[simp] theorem setSp_cpu_a (s : State) (v : Word) : (s.setSp v).cpu.a = s.cpu.a := rfl
@[simp] theorem setSp_cpu_b (s : State) (v : Word) : (s.setSp v).cpu.b = s.cpu.b := rfl
@[simp] theorem setSp_cpu_c (s : State) (v : Word) : (s.setSp v).cpu.c = s.cpu.c := rfl
@[simp] theorem setSp_cpu_d (s : State) (v : Word) : (s.setSp v).cpu.d = s.cpu.d := rfl
@[simp] theorem setSp_cpu_e (s : State) (v : Word) : (s.setSp v).cpu.e = s.cpu.e := rfl
@[simp] theorem setSp_cpu_h (s : State) (v : Word) : (s.setSp v).cpu.h = s.cpu.h := rfl
@[simp] theorem setSp_cpu_l (s : State) (v : Word) : (s.setSp v).cpu.l = s.cpu.l := rfl
@[simp] theorem setSp_cpu_f (s : State) (v : Word) : (s.setSp v).cpu.f = s.cpu.f := rfl
@[simp] theorem setSp_cpu_pc (s : State) (v : Word) : (s.setSp v).cpu.pc = s.cpu.pc := rfl
@[simp] theorem setSp_cpu_ime (s : State) (v : Word) : (s.setSp v).cpu.ime = s.cpu.ime := rfl
@[simp] theorem setSp_cpu_imePending (s : State) (v : Word) : (s.setSp v).cpu.imePending = s.cpu.imePending := rfl
@[simp] theorem setSp_cpu_halted (s : State) (v : Word) : (s.setSp v).cpu.halted = s.cpu.halted := rfl
@[simp] theorem setSp_cpu_haltBug (s : State) (v : Word) : (s.setSp v).cpu.haltBug = s.cpu.haltBug := rfl
@[simp] theorem setSp_cpu_locked (s : State) (v : Word) : (s.setSp v).cpu.locked = s.cpu.locked := rfl
@[simp] theorem setSp_cpu_refused (s : State) (v : Word) : (s.setSp v).cpu.refused = s.cpu.refused := rfl
@[simp] theorem setSp_cpu_record (s : State) (v : Word) : (s.setSp v).cpu.record = s.cpu.record := rfl
@[simp] theorem setSp_cpu_curAddr (s : State) (v : Word) : (s.setSp v).cpu.curAddr = s.cpu.curAddr := rfl

@[simp] theorem setFlags_cpu_f (s : State) (f : Flags) : (s.setFlags f).cpu.f = f := rfl
@[simp] theorem setPc_cpu_pc (s : State) (v : Word) : (s.setPc v).cpu.pc = v := rfl
@[simp] theorem setSp_cpu_sp (s : State) (v : Word) : (s.setSp v).cpu.sp = v := rfl
@[simp] theorem reg_setFlags (s : State) (f : Flags) (r : Reg) : (s.setFlags f).reg r = s.reg r := by cases r <;> rfl
@[simp] theorem reg_setPc (s : State) (v : Word) (r : Reg) : (s.setPc v).reg r = s.reg r := by cases r <;> rfl
@[simp] theorem reg_setSp (s : State) (v : Word) (r : Reg) : (s.setSp v).reg r = s.reg r := by cases r <;> rfl
@[simp] theorem pair_setFlags (s : State) (f : Flags) (p : Pair) : (s.setFlags f).pair p = s.pair p := by cases p <;> rfl
@[simp] theorem hl_setFlags (s : State) (f : Flags) : (s.setFlags f).hl = s.hl := rfl
@[simp] theorem hl_setPc (s : State) (v : Word) : (s.setPc v).hl = s.hl := rfl
@[simp] theorem hl_setSp (s : State) (v : Word) : (s.setSp v).hl = s.hl := rfl

/-- A register read after a register write. -/
@[simp] theorem reg_setReg (s : State) (x r : Reg) (v : Byte) : (s.setReg x v).reg r = if r = x then v else s.reg r := by
  cases x <;> cases r <;> rfl

/-- The pair HL is the word `hl` reads. -/
@[simp] theorem pair_hl (s : State) : s.pair .hl = s.hl := rfl

/-- A pair read after it is written. -/
@[simp] theorem pair_setPair (s : State) (p : Pair) (v : Word) : (s.setPair p v).pair p = v := by
  cases p <;> simp [State.setPair, State.pair, Cpu.setPair, Cpu.pair, Cpu.setHl, Cpu.hl]

end Sys2Proof.Machine
end

