-- ==== Sys2Proof/Laws/Ops.lean ====
section
/-! SUPPORT. What each shared operation can do, said once: the bus, the memory primitives, the stack, taking an
exception and returning from one. -/

namespace Sys2Proof.Machine

open Sys2Proof

/-! ## The bus does not look at the CPU, and the CPU is changed by no write -/

@[simp] theorem busRead_setCpu (s : State) (c : Cpu) (a : Word) : State.busRead { s with cpu := c } a = s.busRead a := rfl

@[simp] theorem cpuRead_setCpu (s : State) (c : Cpu) (a : Word) : State.cpuRead { s with cpu := c } a = s.cpuRead a := rfl

theorem ioWrite_setCpu (s : State) (c : Cpu) (r : IoReg) (v : Byte) :
    State.ioWrite { s with cpu := c } r v = { s.ioWrite r v with cpu := c } := by
  cases r <;> rfl

theorem extWrite_setCpu (s : State) (c : Cpu) (o : Nat) (v : Byte) :
    State.extWrite { s with cpu := c } o v = { s.extWrite o v with cpu := c } := by
  unfold State.extWrite
  dsimp only
  split <;> rfl

/-- A write does the same whatever the CPU's registers hold, and leaves them alone. -/
theorem busWrite_setCpu (s : State) (c : Cpu) (a : Word) (v : Byte) :
    State.busWrite { s with cpu := c } a v = { s.busWrite a v with cpu := c } := by
  unfold State.busWrite
  split
  case h_4 => exact extWrite_setCpu s c _ v
  case h_8 =>
    split
    · exact ioWrite_setCpu s c _ v
    · rfl
  all_goals rfl

@[simp] theorem ioWrite_cpu (s : State) (r : IoReg) (v : Byte) : (s.ioWrite r v).cpu = s.cpu := by cases r <;> rfl

@[simp] theorem extWrite_cpu (s : State) (o : Nat) (v : Byte) : (s.extWrite o v).cpu = s.cpu := by
  unfold State.extWrite
  split <;> rfl

@[simp] theorem busWrite_cpu (s : State) (a : Word) (v : Byte) : (s.busWrite a v).cpu = s.cpu := by
  unfold State.busWrite
  split
  case h_4 => exact extWrite_cpu s _ v
  case h_8 =>
    split
    · exact ioWrite_cpu s _ v
    · rfl
  all_goals rfl

@[simp] theorem cpuWrite_cpu (s : State) (a : Word) (v : Byte) : (s.cpuWrite a v).cpu = s.cpu := by
  unfold State.cpuWrite
  split
  · rfl
  · exact busWrite_cpu s a v

theorem cpuWrite_setCpu (s : State) (c : Cpu) (a : Word) (v : Byte) :
    State.cpuWrite { s with cpu := c } a v = { s.cpuWrite a v with cpu := c } := by
  unfold State.cpuWrite
  rw [busWrite_setCpu]
  have h : State.blocked { s with cpu := c } a = s.blocked a := rfl
  rw [h]
  split <;> rfl

/-- A write takes no time of its own, and changes neither the parameters, the ROM image nor the buttons. -/
theorem busWrite_keeps (s : State) (a : Word) (v : Byte) :
    (s.busWrite a v).t = s.t ∧ (s.busWrite a v).cfg = s.cfg ∧ (s.busWrite a v).mem.rom = s.mem.rom
      ∧ (s.busWrite a v).joypad.buttons = s.joypad.buttons := by
  unfold State.busWrite
  split
  case h_4 => unfold State.extWrite; split <;> exact ⟨rfl, rfl, rfl, rfl⟩
  case h_8 =>
    split
    · next r _ => cases r <;> exact ⟨rfl, rfl, rfl, rfl⟩
    · exact ⟨rfl, rfl, rfl, rfl⟩
  all_goals exact ⟨rfl, rfl, rfl, rfl⟩

theorem cpuWrite_keeps (s : State) (a : Word) (v : Byte) :
    (s.cpuWrite a v).t = s.t ∧ (s.cpuWrite a v).cfg = s.cfg ∧ (s.cpuWrite a v).mem.rom = s.mem.rom
      ∧ (s.cpuWrite a v).joypad.buttons = s.joypad.buttons := by
  unfold State.cpuWrite
  split
  · exact ⟨rfl, rfl, rfl, rfl⟩
  · exact busWrite_keeps s a v

/-! ## Memory primitives -/

@[simp] theorem memRead_fst (s : State) (a : Word) : (s.memRead a).1 = (s.advance 4).cpuRead a := rfl
@[simp] theorem memRead_snd (s : State) (a : Word) : (s.memRead a).2 = s.advance 4 := rfl

theorem memWrite_eq (s : State) (a : Word) (v : Byte) : s.memWrite a v = (s.advance 4).cpuWrite a v := rfl

@[simp] theorem memWrite_cpu (s : State) (a : Word) (v : Byte) : (s.memWrite a v).cpu = s.cpu := by simp [memWrite_eq]

@[simp] theorem memWrite_t (s : State) (a : Word) (v : Byte) : (s.memWrite a v).t = s.t + 4 := by
  rw [memWrite_eq, (cpuWrite_keeps _ a v).1, advance_t]

theorem memWrite_setCpu (s : State) (c : Cpu) (a : Word) (v : Byte) :
    State.memWrite { s with cpu := c } a v = { s.memWrite a v with cpu := c } := by
  rw [memWrite_eq, memWrite_eq, advance_setCpu, cpuWrite_setCpu]

/-- `Imm8()`: the byte at `pc` after 4 T-cycles, and `pc` one on. -/
theorem imm8_eq (s : State) :
    s.imm8 = ((s.advance 4).cpuRead s.cpu.pc, { s.advance 4 with cpu := { s.cpu with pc := s.cpu.pc + 1 } }) := by
  simp [State.imm8, State.setPc]

/-! ## The stack -/

/-- One byte pushed: SP one down, the byte written there after 4 T-cycles. -/
theorem pushByte_eq (s : State) (v : Byte) :
    s.pushByte v = { s.memWrite (s.cpu.sp - 1) v with cpu := { s.cpu with sp := s.cpu.sp - 1 } } := by
  unfold State.pushByte State.setSp
  exact memWrite_setCpu s _ _ v

@[simp] theorem pushByte_cpu (s : State) (v : Byte) : (s.pushByte v).cpu = { s.cpu with sp := s.cpu.sp - 1 } := by
  rw [pushByte_eq]

/-- `Push16(v)`: the high byte below SP, the low byte below that, 4 T-cycles before each, SP two down. -/
theorem push16_eq (s : State) (v : Word) :
    s.push16 v = { (s.memWrite (s.cpu.sp - 1) (hiByte v)).memWrite (s.cpu.sp - 2) (loByte v) with
      cpu := { s.cpu with sp := s.cpu.sp - 2 } } := by
  have h : s.cpu.sp - 1 - 1 = s.cpu.sp - 2 := by bv_omega
  unfold State.push16
  rw [pushByte_eq (s.pushByte (hiByte v)), pushByte_cpu, pushByte_eq s, memWrite_setCpu]
  simp only [h]

@[simp] theorem push16_cpu (s : State) (v : Word) : (s.push16 v).cpu = { s.cpu with sp := s.cpu.sp - 2 } := by
  rw [push16_eq]

@[simp] theorem push16_t (s : State) (v : Word) : (s.push16 v).t = s.t + 8 := by
  rw [push16_eq]
  simp

/-- One byte popped: the byte at SP after 4 T-cycles, SP one up. -/
theorem popByte_eq (s : State) :
    s.popByte = ((s.advance 4).cpuRead s.cpu.sp, { s.advance 4 with cpu := { s.cpu with sp := s.cpu.sp + 1 } }) := by
  simp [State.popByte, State.setSp]

theorem advance_advance (m n : Nat) (s : State) : (s.advance m).advance n = s.advance (m + n) := by
  induction m generalizing s with
  | zero => simp
  | succ m ih => rw [advance_succ, ih, Nat.add_right_comm, advance_succ]

/-- `Pop16()`: the low byte at SP, the high byte above it, 4 T-cycles before each, SP two up. -/
theorem pop16_eq (s : State) :
    s.pop16 = (joinBytes ((s.advance 4).cpuRead s.cpu.sp) ((s.advance 8).cpuRead (s.cpu.sp + 1)),
      { s.advance 8 with cpu := { s.cpu with sp := s.cpu.sp + 2 } }) := by
  have h : s.cpu.sp + 1 + 1 = s.cpu.sp + 2 := by bv_omega
  unfold State.pop16
  rw [popByte_eq s]
  simp only [popByte_eq, advance_setCpu, advance_advance, cpuRead_setCpu, h]

/-! ## Transfers and exceptions -/

/-- A jump: `pc`, and the internal T-cycles. -/
theorem jump_eq (s : State) (a : Word) (k : Nat) :
    s.jump a k = { s.advance k with cpu := { s.cpu with pc := a } } := advance_setCpu k s _

/-- A call: the two stack writes of the return address, `pc` at the target, 4 T-cycles at the end. -/
theorem call_eq (s : State) (a : Word) :
    s.call a = { (s.push16 s.cpu.pc).advance 4 with cpu := { s.cpu with sp := s.cpu.sp - 2, pc := a } } := by
  rw [State.call, jump_eq, push16_cpu]

/-- A return: `pc` and SP from the stack, 8 T-cycles of reads and `k` more. -/
theorem ret_eq (s : State) (k : Nat) :
    s.ret k = { s.advance (8 + k) with cpu := { s.cpu with sp := s.cpu.sp + 2, pc := s.pop16.1 } } := by
  rw [State.ret, jump_eq, pop16_eq]
  simp only [advance_setCpu, advance_advance]

/-- RETI: a return that also sets IME. -/
theorem returnFromInterrupt_eq (s : State) :
    s.returnFromInterrupt
      = { s.advance 12 with cpu := { s.cpu with sp := s.cpu.sp + 2, pc := s.pop16.1, ime := true } } := by
  simp only [State.returnFromInterrupt, pop16_eq, advance_setCpu, advance_advance]

@[simp] theorem acknowledge_enable (q : Irq) (i : Source) : (q.acknowledge i).enable = q.enable := rfl

/-- Interrupt service: IME and the source's IF bit cleared, `pc` pushed, the vector taken, 20 T-cycles in all. -/
theorem service_cpu (s : State) (i : Source) :
    (s.service i).cpu
      = { s.cpu with ime := false, haltBug := false, sp := s.cpu.sp - 2, pc := i.vector } := by
  simp only [State.service, advance_cpu, State.setPc, push16_cpu]

@[simp] theorem service_t (s : State) (i : Source) : (s.service i).t = s.t + 20 := by
  simp [State.service]

/-- The illegal opcode: the record, `pc` and the lock, nothing else. -/
theorem raiseIllegal_frame (s : State) (op : Byte) :
    s.raiseIllegal op = { s with cpu := (s.raiseIllegal op).cpu } := rfl

/-- The opcode fetch: the byte at `pc` after 4 T-cycles; `pc` moves on unless the HALT-bug latch holds it. -/
theorem fetchOpcode_eq (s : State) :
    s.fetchOpcode = ((s.advance 4).cpuRead s.cpu.pc, { s.advance 4 with
      cpu := { s.cpu with curAddr := s.cpu.pc, haltBug := false, pc := if s.cpu.haltBug then s.cpu.pc else s.cpu.pc + 1 } }) := by
  simp [State.fetchOpcode]

end Sys2Proof.Machine
end

