-- ==== Sys2Proof/Laws/MemForm.lean ====
section
/-! SUPPORT. Every memory operation keeps the backing stores in canonical form and inside their regions. -/

namespace Sys2Proof.Machine

open Sys2Proof

/-- The offset of a region is inside it (20_memory.md R61). -/
theorem regionOf_bounds (a : Word) :
    match regionOf a with
    | .rom0 o => o < 0x4000
    | .romX o => o < 0x4000
    | .vram o => o < 0x2000
    | .ext o => o < 0x2000
    | .wram o => o < 0x2000
    | .oam o => o < 0xA0
    | .unmapped => True
    | .io o => o < 0x80
    | .hram o => o < 0x7F
    | .ie => a = 0xFFFF#16 := by
  have ha := a.isLt
  unfold regionOf
  dsimp only
  by_cases h1 : a.toNat < 0x4000
  · simp only [h1, if_true]
  by_cases h2 : a.toNat < 0x8000
  · simp only [h1, h2, if_true, if_false]; omega
  by_cases h3 : a.toNat < 0xA000
  · simp only [h1, h2, h3, if_true, if_false]; omega
  by_cases h4 : a.toNat < 0xC000
  · simp only [h1, h2, h3, h4, if_true, if_false]; omega
  by_cases h5 : a.toNat < 0xE000
  · simp only [h1, h2, h3, h4, h5, if_true, if_false]; omega
  by_cases h6 : a.toNat < 0xFE00
  · simp only [h1, h2, h3, h4, h5, h6, if_true, if_false]; omega
  by_cases h7 : a.toNat < 0xFEA0
  · simp only [h1, h2, h3, h4, h5, h6, h7, if_true, if_false]; omega
  by_cases h8 : a.toNat < 0xFF00
  · simp only [h1, h2, h3, h4, h5, h6, h7, h8, if_true, if_false]
  by_cases h9 : a.toNat < 0xFF80
  · simp only [h1, h2, h3, h4, h5, h6, h7, h8, h9, if_true, if_false]; omega
  by_cases h10 : a.toNat < 0xFFFF
  · simp only [h1, h2, h3, h4, h5, h6, h7, h8, h9, h10, if_true, if_false]; omega
  · simp only [h1, h2, h3, h4, h5, h6, h7, h8, h9, h10, if_false]
    apply BitVec.eq_of_toNat_eq
    simp
    omega

/-- The offset of a wave-RAM register is inside wave RAM (63_apu.md R479). -/
theorem ioRegAt_wave {o i : Nat} (h : ioRegAt o = some (.wave i)) : i < 0x10 := by
  unfold ioRegAt at h
  split at h <;> try cases h
  split at h
  · cases h; omega
  · cases h

/-- The seven conditions of `Mem.wf`, apart. -/
theorem Mem.wf_iff (m : Mem) : m.wf = true ↔
    Cells.wf m.rom = true ∧ Cells.wf m.eram = true ∧ (Cells.wf m.vram = true ∧ Cells.below 0x2000 m.vram = true)
      ∧ (Cells.wf m.wram = true ∧ Cells.below 0x2000 m.wram = true)
      ∧ (Cells.wf m.oam = true ∧ Cells.below 0xA0 m.oam = true)
      ∧ (Cells.wf m.hram = true ∧ Cells.below 0x7F m.hram = true)
      ∧ (Cells.wf m.wave = true ∧ Cells.below 0x10 m.wave = true) := by
  simp only [Mem.wf, Memory.wf, Bool.and_eq_true, and_assoc]

/-- The memories at reset are in form. -/
theorem reset_mem_wf : State.reset.mem.wf = true := rfl

theorem imageOf_wf (size : Nat) (l : List Host.Cell) : Cells.wf (imageOf size l) = true := Cells.wf_ofList _

theorem imageOf_below (size : Nat) (l : List Host.Cell) : Cells.below size (imageOf size l) = true := by
  refine Cells.below_foldl_write _ _ rfl ?_
  simp only [Cells.below, List.all_eq_true, List.mem_filter, decide_eq_true_eq]
  exact fun c hc => hc.2

/-- Any configuration's memories are in form. -/
theorem memories_wf (c : Sys2Proof.Config) (p : Params) : (Config.memories c p).wf = true :=
  (Mem.wf_iff _).2 ⟨imageOf_wf _ _, imageOf_wf _ _, ⟨imageOf_wf _ _, imageOf_below _ _⟩,
    ⟨imageOf_wf _ _, imageOf_below _ _⟩, ⟨imageOf_wf _ _, imageOf_below _ _⟩, ⟨imageOf_wf _ _, imageOf_below _ _⟩,
    ⟨imageOf_wf _ _, imageOf_below _ _⟩⟩

/-- Storing into one memory keeps the form. -/
theorem Mem.wf_rom {m : Mem} (h : m.wf = true) (k : Nat) (v : Byte) :
    Mem.wf { m with rom := Cells.write m.rom k v } = true := by
  rw [Mem.wf_iff] at h ⊢; exact ⟨Cells.wf_write h.1, h.2⟩
theorem Mem.wf_eram {m : Mem} (h : m.wf = true) (k : Nat) (v : Byte) :
    Mem.wf { m with eram := Cells.write m.eram k v } = true := by
  rw [Mem.wf_iff] at h ⊢; exact ⟨h.1, Cells.wf_write h.2.1, h.2.2⟩
theorem Mem.wf_vram {m : Mem} (h : m.wf = true) {k : Nat} (v : Byte) (hk : k < 0x2000) :
    Mem.wf { m with vram := Cells.write m.vram k v } = true := by
  rw [Mem.wf_iff] at h ⊢
  exact ⟨h.1, h.2.1, ⟨Cells.wf_write h.2.2.1.1, Cells.below_write h.2.2.1.2 hk⟩, h.2.2.2⟩
theorem Mem.wf_wram {m : Mem} (h : m.wf = true) {k : Nat} (v : Byte) (hk : k < 0x2000) :
    Mem.wf { m with wram := Cells.write m.wram k v } = true := by
  rw [Mem.wf_iff] at h ⊢
  exact ⟨h.1, h.2.1, h.2.2.1, ⟨Cells.wf_write h.2.2.2.1.1, Cells.below_write h.2.2.2.1.2 hk⟩, h.2.2.2.2⟩
theorem Mem.wf_oam {m : Mem} (h : m.wf = true) {k : Nat} (v : Byte) (hk : k < 0xA0) :
    Mem.wf { m with oam := Cells.write m.oam k v } = true := by
  rw [Mem.wf_iff] at h ⊢
  exact ⟨h.1, h.2.1, h.2.2.1, h.2.2.2.1, ⟨Cells.wf_write h.2.2.2.2.1.1, Cells.below_write h.2.2.2.2.1.2 hk⟩, h.2.2.2.2.2⟩
theorem Mem.wf_hram {m : Mem} (h : m.wf = true) {k : Nat} (v : Byte) (hk : k < 0x7F) :
    Mem.wf { m with hram := Cells.write m.hram k v } = true := by
  rw [Mem.wf_iff] at h ⊢
  exact ⟨h.1, h.2.1, h.2.2.1, h.2.2.2.1, h.2.2.2.2.1,
    ⟨Cells.wf_write h.2.2.2.2.2.1.1, Cells.below_write h.2.2.2.2.2.1.2 hk⟩, h.2.2.2.2.2.2⟩
theorem Mem.wf_wave {m : Mem} (h : m.wf = true) {k : Nat} (v : Byte) (hk : k < 0x10) :
    Mem.wf { m with wave := Cells.write m.wave k v } = true := by
  rw [Mem.wf_iff] at h ⊢
  exact ⟨h.1, h.2.1, h.2.2.1, h.2.2.2.1, h.2.2.2.2.1, h.2.2.2.2.2.1,
    ⟨Cells.wf_write h.2.2.2.2.2.2.1, Cells.below_write h.2.2.2.2.2.2.2 hk⟩⟩

theorem extWrite_mem_wf (s : State) (h : s.mem.wf = true) (o : Nat) (v : Byte) : (s.extWrite o v).mem.wf = true := by
  unfold State.extWrite
  split
  · exact h
  · exact Mem.wf_eram h _ v
  · exact h

theorem ioWrite_mem_wf (s : State) (h : s.mem.wf = true) {o : Nat} {r : IoReg} (hr : ioRegAt o = some r) (v : Byte) :
    (s.ioWrite r v).mem.wf = true := by
  cases r
  case wave i => exact Mem.wf_wave h v (ioRegAt_wave hr)
  all_goals exact h

/-- A bus write keeps the form. -/
theorem busWrite_mem_wf (s : State) (h : s.mem.wf = true) (a : Word) (v : Byte) : (s.busWrite a v).mem.wf = true := by
  have hb := regionOf_bounds a
  unfold State.busWrite
  split <;> simp_all only
  · exact Mem.wf_vram h v hb
  · exact extWrite_mem_wf s h _ v
  · exact Mem.wf_wram h v hb
  · exact Mem.wf_oam h v hb
  · split
    · next hr => exact ioWrite_mem_wf s h hr v
    · exact h
  · exact Mem.wf_hram h v hb

theorem cpuWrite_mem_wf (s : State) (h : s.mem.wf = true) (a : Word) (v : Byte) : (s.cpuWrite a v).mem.wf = true := by
  unfold State.cpuWrite
  split
  · exact h
  · exact busWrite_mem_wf s h a v

/-- The byte a transfer copies lands inside OAM while bytes remain (61_timer_dma_serial_joypad.md R397). -/
theorem tick_mem_wf (s : State) (h : s.mem.wf = true) (hd : s.dma.active = true → 0 < s.dma.remaining) :
    s.tick.mem.wf = true := by
  show Mem.wf { s.mem with oam := if s.dma.copies then _ else s.mem.oam } = true
  split
  · next hc =>
    refine Mem.wf_oam h _ ?_
    have : s.dma.active = true := by
      unfold Dma.copies at hc
      exact (Bool.and_eq_true _ _ ▸ hc).1
    have := hd this
    show 160 - s.dma.remaining < 0xA0
    omega
  · exact h

/-- The engine keeps bytes left while it is active. -/
theorem dmaTick_active (d : Dma) (h : d.active = true → 0 < d.remaining) : d.tick.active = true → 0 < d.tick.remaining := by
  unfold Dma.tick
  split
  · intro ha
    have : d.remaining - 1 ≠ 0 := of_decide_eq_true ha
    show 0 < d.remaining - 1
    omega
  · split <;> exact h

/-- Time keeps the form. -/
theorem advance_mem_wf (n : Nat) (s : State) (h : s.mem.wf = true) (hd : s.dma.active = true → 0 < s.dma.remaining) :
    (s.advance n).mem.wf = true := by
  induction n generalizing s with
  | zero => exact h
  | succ n ih => exact ih _ (tick_mem_wf s h hd) (dmaTick_active s.dma hd)

/-- Placing a byte keeps the form. -/
theorem poke_mem_wf (s : State) (h : s.mem.wf = true) (a : Word) (v : Byte) : (s.poke a v).mem.wf = true := by
  have hb := regionOf_bounds a
  unfold State.poke
  split <;> simp_all only
  · exact Mem.wf_rom h _ v
  · exact Mem.wf_rom h _ v
  · exact Mem.wf_vram h v hb
  · split
    · exact Mem.wf_eram h _ v
    · exact h
    · exact h
  · exact Mem.wf_wram h v hb
  · exact Mem.wf_oam h v hb
  · exact Mem.wf_hram h v hb

/-- Replacing external RAM keeps the form. -/
theorem replaceEram_mem_wf (s : State) (h : s.mem.wf = true) (l : List Host.Cell) : (s.replaceEram l).mem.wf = true := by
  rw [Mem.wf_iff] at h
  exact (Mem.wf_iff _).2 ⟨h.1, Cells.wf_ofList _, h.2.2⟩

/-- An instruction placed for the next step leaves the memories in form. -/
theorem withFetchWord_mem_wf (s : State) (h : s.mem.wf = true) (nbits w : Nat) : (s.withFetchWord nbits w).mem.wf = true := by
  have hr : s.readyToFetch.mem.wf = true := h
  unfold State.withFetchWord State.pokeBytes
  exact poke_mem_wf _ (poke_mem_wf _ (poke_mem_wf _ hr _ _) _ _) _ _

end Sys2Proof.Machine
end

