-- ==== Sys2Proof/Laws/PerInstr.lean ====
section
/-! SUPPORT. The family EncodedLength: the bytes of each instruction are as many as its first byte tells
(30_encoding.md R120), one lemma per constructor. -/

namespace Sys2Proof.Laws.EncodedLength

/-- The instruction has bytes, and as many as its first byte says. -/
def Statement (i : Instr) : Prop := encode i ≠ [] ∧ (encode i).length = instrLength ((encode i).headD 0)

theorem nop : Statement (.nop) := ⟨List.cons_ne_nil _ _, rfl⟩
theorem ld_bc_d16 (v : Word) : Statement (.ld_bc_d16 v) := ⟨List.cons_ne_nil _ _, rfl⟩
theorem ld_atBC_a : Statement (.ld_atBC_a) := ⟨List.cons_ne_nil _ _, rfl⟩
theorem inc_bc : Statement (.inc_bc) := ⟨List.cons_ne_nil _ _, rfl⟩
theorem inc_b : Statement (.inc_b) := ⟨List.cons_ne_nil _ _, rfl⟩
theorem dec_b : Statement (.dec_b) := ⟨List.cons_ne_nil _ _, rfl⟩
theorem ld_b_d8 (v : Byte) : Statement (.ld_b_d8 v) := ⟨List.cons_ne_nil _ _, rfl⟩
theorem rlca : Statement (.rlca) := ⟨List.cons_ne_nil _ _, rfl⟩
theorem ld_atA16_sp (v : Word) : Statement (.ld_atA16_sp v) := ⟨List.cons_ne_nil _ _, rfl⟩
theorem add_hl_bc : Statement (.add_hl_bc) := ⟨List.cons_ne_nil _ _, rfl⟩
theorem ld_a_atBC : Statement (.ld_a_atBC) := ⟨List.cons_ne_nil _ _, rfl⟩
theorem dec_bc : Statement (.dec_bc) := ⟨List.cons_ne_nil _ _, rfl⟩
theorem inc_c : Statement (.inc_c) := ⟨List.cons_ne_nil _ _, rfl⟩
theorem dec_c : Statement (.dec_c) := ⟨List.cons_ne_nil _ _, rfl⟩
theorem ld_c_d8 (v : Byte) : Statement (.ld_c_d8 v) := ⟨List.cons_ne_nil _ _, rfl⟩
theorem rrca : Statement (.rrca) := ⟨List.cons_ne_nil _ _, rfl⟩
theorem stop (v : Byte) : Statement (.stop v) := ⟨List.cons_ne_nil _ _, rfl⟩
theorem ld_de_d16 (v : Word) : Statement (.ld_de_d16 v) := ⟨List.cons_ne_nil _ _, rfl⟩
theorem ld_atDE_a : Statement (.ld_atDE_a) := ⟨List.cons_ne_nil _ _, rfl⟩
theorem inc_de : Statement (.inc_de) := ⟨List.cons_ne_nil _ _, rfl⟩
theorem inc_d : Statement (.inc_d) := ⟨List.cons_ne_nil _ _, rfl⟩
theorem dec_d : Statement (.dec_d) := ⟨List.cons_ne_nil _ _, rfl⟩
theorem ld_d_d8 (v : Byte) : Statement (.ld_d_d8 v) := ⟨List.cons_ne_nil _ _, rfl⟩
theorem rla : Statement (.rla) := ⟨List.cons_ne_nil _ _, rfl⟩
theorem jr_e8 (v : Byte) : Statement (.jr_e8 v) := ⟨List.cons_ne_nil _ _, rfl⟩
theorem add_hl_de : Statement (.add_hl_de) := ⟨List.cons_ne_nil _ _, rfl⟩
theorem ld_a_atDE : Statement (.ld_a_atDE) := ⟨List.cons_ne_nil _ _, rfl⟩
theorem dec_de : Statement (.dec_de) := ⟨List.cons_ne_nil _ _, rfl⟩
theorem inc_e : Statement (.inc_e) := ⟨List.cons_ne_nil _ _, rfl⟩
theorem dec_e : Statement (.dec_e) := ⟨List.cons_ne_nil _ _, rfl⟩
theorem ld_e_d8 (v : Byte) : Statement (.ld_e_d8 v) := ⟨List.cons_ne_nil _ _, rfl⟩
theorem rra : Statement (.rra) := ⟨List.cons_ne_nil _ _, rfl⟩
theorem jr_nz_e8 (v : Byte) : Statement (.jr_nz_e8 v) := ⟨List.cons_ne_nil _ _, rfl⟩
theorem ld_hl_d16 (v : Word) : Statement (.ld_hl_d16 v) := ⟨List.cons_ne_nil _ _, rfl⟩
theorem ld_atHLinc_a : Statement (.ld_atHLinc_a) := ⟨List.cons_ne_nil _ _, rfl⟩
theorem inc_hl : Statement (.inc_hl) := ⟨List.cons_ne_nil _ _, rfl⟩
theorem inc_h : Statement (.inc_h) := ⟨List.cons_ne_nil _ _, rfl⟩
theorem dec_h : Statement (.dec_h) := ⟨List.cons_ne_nil _ _, rfl⟩
theorem ld_h_d8 (v : Byte) : Statement (.ld_h_d8 v) := ⟨List.cons_ne_nil _ _, rfl⟩
theorem daa : Statement (.daa) := ⟨List.cons_ne_nil _ _, rfl⟩
theorem jr_z_e8 (v : Byte) : Statement (.jr_z_e8 v) := ⟨List.cons_ne_nil _ _, rfl⟩
theorem add_hl_hl : Statement (.add_hl_hl) := ⟨List.cons_ne_nil _ _, rfl⟩
theorem ld_a_atHLinc : Statement (.ld_a_atHLinc) := ⟨List.cons_ne_nil _ _, rfl⟩
theorem dec_hl : Statement (.dec_hl) := ⟨List.cons_ne_nil _ _, rfl⟩
theorem inc_l : Statement (.inc_l) := ⟨List.cons_ne_nil _ _, rfl⟩
theorem dec_l : Statement (.dec_l) := ⟨List.cons_ne_nil _ _, rfl⟩
theorem ld_l_d8 (v : Byte) : Statement (.ld_l_d8 v) := ⟨List.cons_ne_nil _ _, rfl⟩
theorem cpl : Statement (.cpl) := ⟨List.cons_ne_nil _ _, rfl⟩
theorem jr_nc_e8 (v : Byte) : Statement (.jr_nc_e8 v) := ⟨List.cons_ne_nil _ _, rfl⟩
theorem ld_sp_d16 (v : Word) : Statement (.ld_sp_d16 v) := ⟨List.cons_ne_nil _ _, rfl⟩
theorem ld_atHLdec_a : Statement (.ld_atHLdec_a) := ⟨List.cons_ne_nil _ _, rfl⟩
theorem inc_sp : Statement (.inc_sp) := ⟨List.cons_ne_nil _ _, rfl⟩
theorem inc_atHL : Statement (.inc_atHL) := ⟨List.cons_ne_nil _ _, rfl⟩
theorem dec_atHL : Statement (.dec_atHL) := ⟨List.cons_ne_nil _ _, rfl⟩
theorem ld_atHL_d8 (v : Byte) : Statement (.ld_atHL_d8 v) := ⟨List.cons_ne_nil _ _, rfl⟩
theorem scf : Statement (.scf) := ⟨List.cons_ne_nil _ _, rfl⟩
theorem jr_c_e8 (v : Byte) : Statement (.jr_c_e8 v) := ⟨List.cons_ne_nil _ _, rfl⟩
theorem add_hl_sp : Statement (.add_hl_sp) := ⟨List.cons_ne_nil _ _, rfl⟩
theorem ld_a_atHLdec : Statement (.ld_a_atHLdec) := ⟨List.cons_ne_nil _ _, rfl⟩
theorem dec_sp : Statement (.dec_sp) := ⟨List.cons_ne_nil _ _, rfl⟩
theorem inc_a : Statement (.inc_a) := ⟨List.cons_ne_nil _ _, rfl⟩
theorem dec_a : Statement (.dec_a) := ⟨List.cons_ne_nil _ _, rfl⟩
theorem ld_a_d8 (v : Byte) : Statement (.ld_a_d8 v) := ⟨List.cons_ne_nil _ _, rfl⟩
theorem ccf : Statement (.ccf) := ⟨List.cons_ne_nil _ _, rfl⟩
theorem ld_b_b : Statement (.ld_b_b) := ⟨List.cons_ne_nil _ _, rfl⟩
theorem ld_b_c : Statement (.ld_b_c) := ⟨List.cons_ne_nil _ _, rfl⟩
theorem ld_b_d : Statement (.ld_b_d) := ⟨List.cons_ne_nil _ _, rfl⟩
theorem ld_b_e : Statement (.ld_b_e) := ⟨List.cons_ne_nil _ _, rfl⟩
theorem ld_b_h : Statement (.ld_b_h) := ⟨List.cons_ne_nil _ _, rfl⟩
theorem ld_b_l : Statement (.ld_b_l) := ⟨List.cons_ne_nil _ _, rfl⟩
theorem ld_b_atHL : Statement (.ld_b_atHL) := ⟨List.cons_ne_nil _ _, rfl⟩
theorem ld_b_a : Statement (.ld_b_a) := ⟨List.cons_ne_nil _ _, rfl⟩
theorem ld_c_b : Statement (.ld_c_b) := ⟨List.cons_ne_nil _ _, rfl⟩
theorem ld_c_c : Statement (.ld_c_c) := ⟨List.cons_ne_nil _ _, rfl⟩
theorem ld_c_d : Statement (.ld_c_d) := ⟨List.cons_ne_nil _ _, rfl⟩
theorem ld_c_e : Statement (.ld_c_e) := ⟨List.cons_ne_nil _ _, rfl⟩
theorem ld_c_h : Statement (.ld_c_h) := ⟨List.cons_ne_nil _ _, rfl⟩
theorem ld_c_l : Statement (.ld_c_l) := ⟨List.cons_ne_nil _ _, rfl⟩
theorem ld_c_atHL : Statement (.ld_c_atHL) := ⟨List.cons_ne_nil _ _, rfl⟩
theorem ld_c_a : Statement (.ld_c_a) := ⟨List.cons_ne_nil _ _, rfl⟩
theorem ld_d_b : Statement (.ld_d_b) := ⟨List.cons_ne_nil _ _, rfl⟩
theorem ld_d_c : Statement (.ld_d_c) := ⟨List.cons_ne_nil _ _, rfl⟩
theorem ld_d_d : Statement (.ld_d_d) := ⟨List.cons_ne_nil _ _, rfl⟩
theorem ld_d_e : Statement (.ld_d_e) := ⟨List.cons_ne_nil _ _, rfl⟩
theorem ld_d_h : Statement (.ld_d_h) := ⟨List.cons_ne_nil _ _, rfl⟩
theorem ld_d_l : Statement (.ld_d_l) := ⟨List.cons_ne_nil _ _, rfl⟩
theorem ld_d_atHL : Statement (.ld_d_atHL) := ⟨List.cons_ne_nil _ _, rfl⟩
theorem ld_d_a : Statement (.ld_d_a) := ⟨List.cons_ne_nil _ _, rfl⟩
theorem ld_e_b : Statement (.ld_e_b) := ⟨List.cons_ne_nil _ _, rfl⟩
theorem ld_e_c : Statement (.ld_e_c) := ⟨List.cons_ne_nil _ _, rfl⟩
theorem ld_e_d : Statement (.ld_e_d) := ⟨List.cons_ne_nil _ _, rfl⟩
theorem ld_e_e : Statement (.ld_e_e) := ⟨List.cons_ne_nil _ _, rfl⟩
theorem ld_e_h : Statement (.ld_e_h) := ⟨List.cons_ne_nil _ _, rfl⟩
theorem ld_e_l : Statement (.ld_e_l) := ⟨List.cons_ne_nil _ _, rfl⟩
theorem ld_e_atHL : Statement (.ld_e_atHL) := ⟨List.cons_ne_nil _ _, rfl⟩
theorem ld_e_a : Statement (.ld_e_a) := ⟨List.cons_ne_nil _ _, rfl⟩
theorem ld_h_b : Statement (.ld_h_b) := ⟨List.cons_ne_nil _ _, rfl⟩
theorem ld_h_c : Statement (.ld_h_c) := ⟨List.cons_ne_nil _ _, rfl⟩
theorem ld_h_d : Statement (.ld_h_d) := ⟨List.cons_ne_nil _ _, rfl⟩
theorem ld_h_e : Statement (.ld_h_e) := ⟨List.cons_ne_nil _ _, rfl⟩
theorem ld_h_h : Statement (.ld_h_h) := ⟨List.cons_ne_nil _ _, rfl⟩
theorem ld_h_l : Statement (.ld_h_l) := ⟨List.cons_ne_nil _ _, rfl⟩
theorem ld_h_atHL : Statement (.ld_h_atHL) := ⟨List.cons_ne_nil _ _, rfl⟩
theorem ld_h_a : Statement (.ld_h_a) := ⟨List.cons_ne_nil _ _, rfl⟩
theorem ld_l_b : Statement (.ld_l_b) := ⟨List.cons_ne_nil _ _, rfl⟩
theorem ld_l_c : Statement (.ld_l_c) := ⟨List.cons_ne_nil _ _, rfl⟩
theorem ld_l_d : Statement (.ld_l_d) := ⟨List.cons_ne_nil _ _, rfl⟩
theorem ld_l_e : Statement (.ld_l_e) := ⟨List.cons_ne_nil _ _, rfl⟩
theorem ld_l_h : Statement (.ld_l_h) := ⟨List.cons_ne_nil _ _, rfl⟩
theorem ld_l_l : Statement (.ld_l_l) := ⟨List.cons_ne_nil _ _, rfl⟩
theorem ld_l_atHL : Statement (.ld_l_atHL) := ⟨List.cons_ne_nil _ _, rfl⟩
theorem ld_l_a : Statement (.ld_l_a) := ⟨List.cons_ne_nil _ _, rfl⟩
theorem ld_atHL_b : Statement (.ld_atHL_b) := ⟨List.cons_ne_nil _ _, rfl⟩
theorem ld_atHL_c : Statement (.ld_atHL_c) := ⟨List.cons_ne_nil _ _, rfl⟩
theorem ld_atHL_d : Statement (.ld_atHL_d) := ⟨List.cons_ne_nil _ _, rfl⟩
theorem ld_atHL_e : Statement (.ld_atHL_e) := ⟨List.cons_ne_nil _ _, rfl⟩
theorem ld_atHL_h : Statement (.ld_atHL_h) := ⟨List.cons_ne_nil _ _, rfl⟩
theorem ld_atHL_l : Statement (.ld_atHL_l) := ⟨List.cons_ne_nil _ _, rfl⟩
theorem halt : Statement (.halt) := ⟨List.cons_ne_nil _ _, rfl⟩
theorem ld_atHL_a : Statement (.ld_atHL_a) := ⟨List.cons_ne_nil _ _, rfl⟩
theorem ld_a_b : Statement (.ld_a_b) := ⟨List.cons_ne_nil _ _, rfl⟩
theorem ld_a_c : Statement (.ld_a_c) := ⟨List.cons_ne_nil _ _, rfl⟩
theorem ld_a_d : Statement (.ld_a_d) := ⟨List.cons_ne_nil _ _, rfl⟩
theorem ld_a_e : Statement (.ld_a_e) := ⟨List.cons_ne_nil _ _, rfl⟩
theorem ld_a_h : Statement (.ld_a_h) := ⟨List.cons_ne_nil _ _, rfl⟩
theorem ld_a_l : Statement (.ld_a_l) := ⟨List.cons_ne_nil _ _, rfl⟩
theorem ld_a_atHL : Statement (.ld_a_atHL) := ⟨List.cons_ne_nil _ _, rfl⟩
theorem ld_a_a : Statement (.ld_a_a) := ⟨List.cons_ne_nil _ _, rfl⟩
theorem add_a_b : Statement (.add_a_b) := ⟨List.cons_ne_nil _ _, rfl⟩
theorem add_a_c : Statement (.add_a_c) := ⟨List.cons_ne_nil _ _, rfl⟩
theorem add_a_d : Statement (.add_a_d) := ⟨List.cons_ne_nil _ _, rfl⟩
theorem add_a_e : Statement (.add_a_e) := ⟨List.cons_ne_nil _ _, rfl⟩
theorem add_a_h : Statement (.add_a_h) := ⟨List.cons_ne_nil _ _, rfl⟩
theorem add_a_l : Statement (.add_a_l) := ⟨List.cons_ne_nil _ _, rfl⟩
theorem add_a_atHL : Statement (.add_a_atHL) := ⟨List.cons_ne_nil _ _, rfl⟩
theorem add_a_a : Statement (.add_a_a) := ⟨List.cons_ne_nil _ _, rfl⟩
theorem adc_a_b : Statement (.adc_a_b) := ⟨List.cons_ne_nil _ _, rfl⟩
theorem adc_a_c : Statement (.adc_a_c) := ⟨List.cons_ne_nil _ _, rfl⟩
theorem adc_a_d : Statement (.adc_a_d) := ⟨List.cons_ne_nil _ _, rfl⟩
theorem adc_a_e : Statement (.adc_a_e) := ⟨List.cons_ne_nil _ _, rfl⟩
theorem adc_a_h : Statement (.adc_a_h) := ⟨List.cons_ne_nil _ _, rfl⟩
theorem adc_a_l : Statement (.adc_a_l) := ⟨List.cons_ne_nil _ _, rfl⟩
theorem adc_a_atHL : Statement (.adc_a_atHL) := ⟨List.cons_ne_nil _ _, rfl⟩
theorem adc_a_a : Statement (.adc_a_a) := ⟨List.cons_ne_nil _ _, rfl⟩
theorem sub_b : Statement (.sub_b) := ⟨List.cons_ne_nil _ _, rfl⟩
theorem sub_c : Statement (.sub_c) := ⟨List.cons_ne_nil _ _, rfl⟩
theorem sub_d : Statement (.sub_d) := ⟨List.cons_ne_nil _ _, rfl⟩
theorem sub_e : Statement (.sub_e) := ⟨List.cons_ne_nil _ _, rfl⟩
theorem sub_h : Statement (.sub_h) := ⟨List.cons_ne_nil _ _, rfl⟩
theorem sub_l : Statement (.sub_l) := ⟨List.cons_ne_nil _ _, rfl⟩
theorem sub_atHL : Statement (.sub_atHL) := ⟨List.cons_ne_nil _ _, rfl⟩
theorem sub_a : Statement (.sub_a) := ⟨List.cons_ne_nil _ _, rfl⟩
theorem sbc_a_b : Statement (.sbc_a_b) := ⟨List.cons_ne_nil _ _, rfl⟩
theorem sbc_a_c : Statement (.sbc_a_c) := ⟨List.cons_ne_nil _ _, rfl⟩
theorem sbc_a_d : Statement (.sbc_a_d) := ⟨List.cons_ne_nil _ _, rfl⟩
theorem sbc_a_e : Statement (.sbc_a_e) := ⟨List.cons_ne_nil _ _, rfl⟩
theorem sbc_a_h : Statement (.sbc_a_h) := ⟨List.cons_ne_nil _ _, rfl⟩
theorem sbc_a_l : Statement (.sbc_a_l) := ⟨List.cons_ne_nil _ _, rfl⟩
theorem sbc_a_atHL : Statement (.sbc_a_atHL) := ⟨List.cons_ne_nil _ _, rfl⟩
theorem sbc_a_a : Statement (.sbc_a_a) := ⟨List.cons_ne_nil _ _, rfl⟩
theorem and_b : Statement (.and_b) := ⟨List.cons_ne_nil _ _, rfl⟩
theorem and_c : Statement (.and_c) := ⟨List.cons_ne_nil _ _, rfl⟩
theorem and_d : Statement (.and_d) := ⟨List.cons_ne_nil _ _, rfl⟩
theorem and_e : Statement (.and_e) := ⟨List.cons_ne_nil _ _, rfl⟩
theorem and_h : Statement (.and_h) := ⟨List.cons_ne_nil _ _, rfl⟩
theorem and_l : Statement (.and_l) := ⟨List.cons_ne_nil _ _, rfl⟩
theorem and_atHL : Statement (.and_atHL) := ⟨List.cons_ne_nil _ _, rfl⟩
theorem and_a : Statement (.and_a) := ⟨List.cons_ne_nil _ _, rfl⟩
theorem xor_b : Statement (.xor_b) := ⟨List.cons_ne_nil _ _, rfl⟩
theorem xor_c : Statement (.xor_c) := ⟨List.cons_ne_nil _ _, rfl⟩
theorem xor_d : Statement (.xor_d) := ⟨List.cons_ne_nil _ _, rfl⟩
theorem xor_e : Statement (.xor_e) := ⟨List.cons_ne_nil _ _, rfl⟩
theorem xor_h : Statement (.xor_h) := ⟨List.cons_ne_nil _ _, rfl⟩
theorem xor_l : Statement (.xor_l) := ⟨List.cons_ne_nil _ _, rfl⟩
theorem xor_atHL : Statement (.xor_atHL) := ⟨List.cons_ne_nil _ _, rfl⟩
theorem xor_a : Statement (.xor_a) := ⟨List.cons_ne_nil _ _, rfl⟩
theorem or_b : Statement (.or_b) := ⟨List.cons_ne_nil _ _, rfl⟩
theorem or_c : Statement (.or_c) := ⟨List.cons_ne_nil _ _, rfl⟩
theorem or_d : Statement (.or_d) := ⟨List.cons_ne_nil _ _, rfl⟩
theorem or_e : Statement (.or_e) := ⟨List.cons_ne_nil _ _, rfl⟩
theorem or_h : Statement (.or_h) := ⟨List.cons_ne_nil _ _, rfl⟩
theorem or_l : Statement (.or_l) := ⟨List.cons_ne_nil _ _, rfl⟩
theorem or_atHL : Statement (.or_atHL) := ⟨List.cons_ne_nil _ _, rfl⟩
theorem or_a : Statement (.or_a) := ⟨List.cons_ne_nil _ _, rfl⟩
theorem cp_b : Statement (.cp_b) := ⟨List.cons_ne_nil _ _, rfl⟩
theorem cp_c : Statement (.cp_c) := ⟨List.cons_ne_nil _ _, rfl⟩
theorem cp_d : Statement (.cp_d) := ⟨List.cons_ne_nil _ _, rfl⟩
theorem cp_e : Statement (.cp_e) := ⟨List.cons_ne_nil _ _, rfl⟩
theorem cp_h : Statement (.cp_h) := ⟨List.cons_ne_nil _ _, rfl⟩
theorem cp_l : Statement (.cp_l) := ⟨List.cons_ne_nil _ _, rfl⟩
theorem cp_atHL : Statement (.cp_atHL) := ⟨List.cons_ne_nil _ _, rfl⟩
theorem cp_a : Statement (.cp_a) := ⟨List.cons_ne_nil _ _, rfl⟩
theorem ret_nz : Statement (.ret_nz) := ⟨List.cons_ne_nil _ _, rfl⟩
theorem pop_bc : Statement (.pop_bc) := ⟨List.cons_ne_nil _ _, rfl⟩
theorem jp_nz_a16 (v : Word) : Statement (.jp_nz_a16 v) := ⟨List.cons_ne_nil _ _, rfl⟩
theorem jp_a16 (v : Word) : Statement (.jp_a16 v) := ⟨List.cons_ne_nil _ _, rfl⟩
theorem call_nz_a16 (v : Word) : Statement (.call_nz_a16 v) := ⟨List.cons_ne_nil _ _, rfl⟩
theorem push_bc : Statement (.push_bc) := ⟨List.cons_ne_nil _ _, rfl⟩
theorem add_a_d8 (v : Byte) : Statement (.add_a_d8 v) := ⟨List.cons_ne_nil _ _, rfl⟩
theorem rst_00 : Statement (.rst_00) := ⟨List.cons_ne_nil _ _, rfl⟩
theorem ret_z : Statement (.ret_z) := ⟨List.cons_ne_nil _ _, rfl⟩
theorem ret : Statement (.ret) := ⟨List.cons_ne_nil _ _, rfl⟩
theorem jp_z_a16 (v : Word) : Statement (.jp_z_a16 v) := ⟨List.cons_ne_nil _ _, rfl⟩
theorem prefixCB (v : Byte) : Statement (.prefixCB v) := ⟨List.cons_ne_nil _ _, rfl⟩
theorem call_z_a16 (v : Word) : Statement (.call_z_a16 v) := ⟨List.cons_ne_nil _ _, rfl⟩
theorem call_a16 (v : Word) : Statement (.call_a16 v) := ⟨List.cons_ne_nil _ _, rfl⟩
theorem adc_a_d8 (v : Byte) : Statement (.adc_a_d8 v) := ⟨List.cons_ne_nil _ _, rfl⟩
theorem rst_08 : Statement (.rst_08) := ⟨List.cons_ne_nil _ _, rfl⟩
theorem ret_nc : Statement (.ret_nc) := ⟨List.cons_ne_nil _ _, rfl⟩
theorem pop_de : Statement (.pop_de) := ⟨List.cons_ne_nil _ _, rfl⟩
theorem jp_nc_a16 (v : Word) : Statement (.jp_nc_a16 v) := ⟨List.cons_ne_nil _ _, rfl⟩
theorem illegal_d3 : Statement (.illegal_d3) := ⟨List.cons_ne_nil _ _, rfl⟩
theorem call_nc_a16 (v : Word) : Statement (.call_nc_a16 v) := ⟨List.cons_ne_nil _ _, rfl⟩
theorem push_de : Statement (.push_de) := ⟨List.cons_ne_nil _ _, rfl⟩
theorem sub_d8 (v : Byte) : Statement (.sub_d8 v) := ⟨List.cons_ne_nil _ _, rfl⟩
theorem rst_10 : Statement (.rst_10) := ⟨List.cons_ne_nil _ _, rfl⟩
theorem ret_c : Statement (.ret_c) := ⟨List.cons_ne_nil _ _, rfl⟩
theorem reti : Statement (.reti) := ⟨List.cons_ne_nil _ _, rfl⟩
theorem jp_c_a16 (v : Word) : Statement (.jp_c_a16 v) := ⟨List.cons_ne_nil _ _, rfl⟩
theorem illegal_db : Statement (.illegal_db) := ⟨List.cons_ne_nil _ _, rfl⟩
theorem call_c_a16 (v : Word) : Statement (.call_c_a16 v) := ⟨List.cons_ne_nil _ _, rfl⟩
theorem illegal_dd : Statement (.illegal_dd) := ⟨List.cons_ne_nil _ _, rfl⟩
theorem sbc_a_d8 (v : Byte) : Statement (.sbc_a_d8 v) := ⟨List.cons_ne_nil _ _, rfl⟩
theorem rst_18 : Statement (.rst_18) := ⟨List.cons_ne_nil _ _, rfl⟩
theorem ldh_atA8_a (v : Byte) : Statement (.ldh_atA8_a v) := ⟨List.cons_ne_nil _ _, rfl⟩
theorem pop_hl : Statement (.pop_hl) := ⟨List.cons_ne_nil _ _, rfl⟩
theorem ldh_atC_a : Statement (.ldh_atC_a) := ⟨List.cons_ne_nil _ _, rfl⟩
theorem illegal_e3 : Statement (.illegal_e3) := ⟨List.cons_ne_nil _ _, rfl⟩
theorem illegal_e4 : Statement (.illegal_e4) := ⟨List.cons_ne_nil _ _, rfl⟩
theorem push_hl : Statement (.push_hl) := ⟨List.cons_ne_nil _ _, rfl⟩
theorem and_d8 (v : Byte) : Statement (.and_d8 v) := ⟨List.cons_ne_nil _ _, rfl⟩
theorem rst_20 : Statement (.rst_20) := ⟨List.cons_ne_nil _ _, rfl⟩
theorem add_sp_e8 (v : Byte) : Statement (.add_sp_e8 v) := ⟨List.cons_ne_nil _ _, rfl⟩
theorem jp_hl : Statement (.jp_hl) := ⟨List.cons_ne_nil _ _, rfl⟩
theorem ld_atA16_a (v : Word) : Statement (.ld_atA16_a v) := ⟨List.cons_ne_nil _ _, rfl⟩
theorem illegal_eb : Statement (.illegal_eb) := ⟨List.cons_ne_nil _ _, rfl⟩
theorem illegal_ec : Statement (.illegal_ec) := ⟨List.cons_ne_nil _ _, rfl⟩
theorem illegal_ed : Statement (.illegal_ed) := ⟨List.cons_ne_nil _ _, rfl⟩
theorem xor_d8 (v : Byte) : Statement (.xor_d8 v) := ⟨List.cons_ne_nil _ _, rfl⟩
theorem rst_28 : Statement (.rst_28) := ⟨List.cons_ne_nil _ _, rfl⟩
theorem ldh_a_atA8 (v : Byte) : Statement (.ldh_a_atA8 v) := ⟨List.cons_ne_nil _ _, rfl⟩
theorem pop_af : Statement (.pop_af) := ⟨List.cons_ne_nil _ _, rfl⟩
theorem ldh_a_atC : Statement (.ldh_a_atC) := ⟨List.cons_ne_nil _ _, rfl⟩
theorem di : Statement (.di) := ⟨List.cons_ne_nil _ _, rfl⟩
theorem illegal_f4 : Statement (.illegal_f4) := ⟨List.cons_ne_nil _ _, rfl⟩
theorem push_af : Statement (.push_af) := ⟨List.cons_ne_nil _ _, rfl⟩
theorem or_d8 (v : Byte) : Statement (.or_d8 v) := ⟨List.cons_ne_nil _ _, rfl⟩
theorem rst_30 : Statement (.rst_30) := ⟨List.cons_ne_nil _ _, rfl⟩
theorem ld_hl_spE8 (v : Byte) : Statement (.ld_hl_spE8 v) := ⟨List.cons_ne_nil _ _, rfl⟩
theorem ld_sp_hl : Statement (.ld_sp_hl) := ⟨List.cons_ne_nil _ _, rfl⟩
theorem ld_a_atA16 (v : Word) : Statement (.ld_a_atA16 v) := ⟨List.cons_ne_nil _ _, rfl⟩
theorem ei : Statement (.ei) := ⟨List.cons_ne_nil _ _, rfl⟩
theorem illegal_fc : Statement (.illegal_fc) := ⟨List.cons_ne_nil _ _, rfl⟩
theorem illegal_fd : Statement (.illegal_fd) := ⟨List.cons_ne_nil _ _, rfl⟩
theorem cp_d8 (v : Byte) : Statement (.cp_d8 v) := ⟨List.cons_ne_nil _ _, rfl⟩
theorem rst_38 : Statement (.rst_38) := ⟨List.cons_ne_nil _ _, rfl⟩
theorem rlc_b : Statement (.rlc_b) := ⟨List.cons_ne_nil _ _, rfl⟩
theorem rlc_c : Statement (.rlc_c) := ⟨List.cons_ne_nil _ _, rfl⟩
theorem rlc_d : Statement (.rlc_d) := ⟨List.cons_ne_nil _ _, rfl⟩
theorem rlc_e : Statement (.rlc_e) := ⟨List.cons_ne_nil _ _, rfl⟩
theorem rlc_h : Statement (.rlc_h) := ⟨List.cons_ne_nil _ _, rfl⟩
theorem rlc_l : Statement (.rlc_l) := ⟨List.cons_ne_nil _ _, rfl⟩
theorem rlc_atHL : Statement (.rlc_atHL) := ⟨List.cons_ne_nil _ _, rfl⟩
theorem rlc_a : Statement (.rlc_a) := ⟨List.cons_ne_nil _ _, rfl⟩
theorem rrc_b : Statement (.rrc_b) := ⟨List.cons_ne_nil _ _, rfl⟩
theorem rrc_c : Statement (.rrc_c) := ⟨List.cons_ne_nil _ _, rfl⟩
theorem rrc_d : Statement (.rrc_d) := ⟨List.cons_ne_nil _ _, rfl⟩
theorem rrc_e : Statement (.rrc_e) := ⟨List.cons_ne_nil _ _, rfl⟩
theorem rrc_h : Statement (.rrc_h) := ⟨List.cons_ne_nil _ _, rfl⟩
theorem rrc_l : Statement (.rrc_l) := ⟨List.cons_ne_nil _ _, rfl⟩
theorem rrc_atHL : Statement (.rrc_atHL) := ⟨List.cons_ne_nil _ _, rfl⟩
theorem rrc_a : Statement (.rrc_a) := ⟨List.cons_ne_nil _ _, rfl⟩
theorem rl_b : Statement (.rl_b) := ⟨List.cons_ne_nil _ _, rfl⟩
theorem rl_c : Statement (.rl_c) := ⟨List.cons_ne_nil _ _, rfl⟩
theorem rl_d : Statement (.rl_d) := ⟨List.cons_ne_nil _ _, rfl⟩
theorem rl_e : Statement (.rl_e) := ⟨List.cons_ne_nil _ _, rfl⟩
theorem rl_h : Statement (.rl_h) := ⟨List.cons_ne_nil _ _, rfl⟩
theorem rl_l : Statement (.rl_l) := ⟨List.cons_ne_nil _ _, rfl⟩
theorem rl_atHL : Statement (.rl_atHL) := ⟨List.cons_ne_nil _ _, rfl⟩
theorem rl_a : Statement (.rl_a) := ⟨List.cons_ne_nil _ _, rfl⟩
theorem rr_b : Statement (.rr_b) := ⟨List.cons_ne_nil _ _, rfl⟩
theorem rr_c : Statement (.rr_c) := ⟨List.cons_ne_nil _ _, rfl⟩
theorem rr_d : Statement (.rr_d) := ⟨List.cons_ne_nil _ _, rfl⟩
theorem rr_e : Statement (.rr_e) := ⟨List.cons_ne_nil _ _, rfl⟩
theorem rr_h : Statement (.rr_h) := ⟨List.cons_ne_nil _ _, rfl⟩
theorem rr_l : Statement (.rr_l) := ⟨List.cons_ne_nil _ _, rfl⟩
theorem rr_atHL : Statement (.rr_atHL) := ⟨List.cons_ne_nil _ _, rfl⟩
theorem rr_a : Statement (.rr_a) := ⟨List.cons_ne_nil _ _, rfl⟩
theorem sla_b : Statement (.sla_b) := ⟨List.cons_ne_nil _ _, rfl⟩
theorem sla_c : Statement (.sla_c) := ⟨List.cons_ne_nil _ _, rfl⟩
theorem sla_d : Statement (.sla_d) := ⟨List.cons_ne_nil _ _, rfl⟩
theorem sla_e : Statement (.sla_e) := ⟨List.cons_ne_nil _ _, rfl⟩
theorem sla_h : Statement (.sla_h) := ⟨List.cons_ne_nil _ _, rfl⟩
theorem sla_l : Statement (.sla_l) := ⟨List.cons_ne_nil _ _, rfl⟩
theorem sla_atHL : Statement (.sla_atHL) := ⟨List.cons_ne_nil _ _, rfl⟩
theorem sla_a : Statement (.sla_a) := ⟨List.cons_ne_nil _ _, rfl⟩
theorem sra_b : Statement (.sra_b) := ⟨List.cons_ne_nil _ _, rfl⟩
theorem sra_c : Statement (.sra_c) := ⟨List.cons_ne_nil _ _, rfl⟩
theorem sra_d : Statement (.sra_d) := ⟨List.cons_ne_nil _ _, rfl⟩
theorem sra_e : Statement (.sra_e) := ⟨List.cons_ne_nil _ _, rfl⟩
theorem sra_h : Statement (.sra_h) := ⟨List.cons_ne_nil _ _, rfl⟩
theorem sra_l : Statement (.sra_l) := ⟨List.cons_ne_nil _ _, rfl⟩
theorem sra_atHL : Statement (.sra_atHL) := ⟨List.cons_ne_nil _ _, rfl⟩
theorem sra_a : Statement (.sra_a) := ⟨List.cons_ne_nil _ _, rfl⟩
theorem swap_b : Statement (.swap_b) := ⟨List.cons_ne_nil _ _, rfl⟩
theorem swap_c : Statement (.swap_c) := ⟨List.cons_ne_nil _ _, rfl⟩
theorem swap_d : Statement (.swap_d) := ⟨List.cons_ne_nil _ _, rfl⟩
theorem swap_e : Statement (.swap_e) := ⟨List.cons_ne_nil _ _, rfl⟩
theorem swap_h : Statement (.swap_h) := ⟨List.cons_ne_nil _ _, rfl⟩
theorem swap_l : Statement (.swap_l) := ⟨List.cons_ne_nil _ _, rfl⟩
theorem swap_atHL : Statement (.swap_atHL) := ⟨List.cons_ne_nil _ _, rfl⟩
theorem swap_a : Statement (.swap_a) := ⟨List.cons_ne_nil _ _, rfl⟩
theorem srl_b : Statement (.srl_b) := ⟨List.cons_ne_nil _ _, rfl⟩
theorem srl_c : Statement (.srl_c) := ⟨List.cons_ne_nil _ _, rfl⟩
theorem srl_d : Statement (.srl_d) := ⟨List.cons_ne_nil _ _, rfl⟩
theorem srl_e : Statement (.srl_e) := ⟨List.cons_ne_nil _ _, rfl⟩
theorem srl_h : Statement (.srl_h) := ⟨List.cons_ne_nil _ _, rfl⟩
theorem srl_l : Statement (.srl_l) := ⟨List.cons_ne_nil _ _, rfl⟩
theorem srl_atHL : Statement (.srl_atHL) := ⟨List.cons_ne_nil _ _, rfl⟩
theorem srl_a : Statement (.srl_a) := ⟨List.cons_ne_nil _ _, rfl⟩
theorem bit_0_b : Statement (.bit_0_b) := ⟨List.cons_ne_nil _ _, rfl⟩
theorem bit_0_c : Statement (.bit_0_c) := ⟨List.cons_ne_nil _ _, rfl⟩
theorem bit_0_d : Statement (.bit_0_d) := ⟨List.cons_ne_nil _ _, rfl⟩
theorem bit_0_e : Statement (.bit_0_e) := ⟨List.cons_ne_nil _ _, rfl⟩
theorem bit_0_h : Statement (.bit_0_h) := ⟨List.cons_ne_nil _ _, rfl⟩
theorem bit_0_l : Statement (.bit_0_l) := ⟨List.cons_ne_nil _ _, rfl⟩
theorem bit_0_atHL : Statement (.bit_0_atHL) := ⟨List.cons_ne_nil _ _, rfl⟩
theorem bit_0_a : Statement (.bit_0_a) := ⟨List.cons_ne_nil _ _, rfl⟩
theorem bit_1_b : Statement (.bit_1_b) := ⟨List.cons_ne_nil _ _, rfl⟩
theorem bit_1_c : Statement (.bit_1_c) := ⟨List.cons_ne_nil _ _, rfl⟩
theorem bit_1_d : Statement (.bit_1_d) := ⟨List.cons_ne_nil _ _, rfl⟩
theorem bit_1_e : Statement (.bit_1_e) := ⟨List.cons_ne_nil _ _, rfl⟩
theorem bit_1_h : Statement (.bit_1_h) := ⟨List.cons_ne_nil _ _, rfl⟩
theorem bit_1_l : Statement (.bit_1_l) := ⟨List.cons_ne_nil _ _, rfl⟩
theorem bit_1_atHL : Statement (.bit_1_atHL) := ⟨List.cons_ne_nil _ _, rfl⟩
theorem bit_1_a : Statement (.bit_1_a) := ⟨List.cons_ne_nil _ _, rfl⟩
theorem bit_2_b : Statement (.bit_2_b) := ⟨List.cons_ne_nil _ _, rfl⟩
theorem bit_2_c : Statement (.bit_2_c) := ⟨List.cons_ne_nil _ _, rfl⟩
theorem bit_2_d : Statement (.bit_2_d) := ⟨List.cons_ne_nil _ _, rfl⟩
theorem bit_2_e : Statement (.bit_2_e) := ⟨List.cons_ne_nil _ _, rfl⟩
theorem bit_2_h : Statement (.bit_2_h) := ⟨List.cons_ne_nil _ _, rfl⟩
theorem bit_2_l : Statement (.bit_2_l) := ⟨List.cons_ne_nil _ _, rfl⟩
theorem bit_2_atHL : Statement (.bit_2_atHL) := ⟨List.cons_ne_nil _ _, rfl⟩
theorem bit_2_a : Statement (.bit_2_a) := ⟨List.cons_ne_nil _ _, rfl⟩
theorem bit_3_b : Statement (.bit_3_b) := ⟨List.cons_ne_nil _ _, rfl⟩
theorem bit_3_c : Statement (.bit_3_c) := ⟨List.cons_ne_nil _ _, rfl⟩
theorem bit_3_d : Statement (.bit_3_d) := ⟨List.cons_ne_nil _ _, rfl⟩
theorem bit_3_e : Statement (.bit_3_e) := ⟨List.cons_ne_nil _ _, rfl⟩
theorem bit_3_h : Statement (.bit_3_h) := ⟨List.cons_ne_nil _ _, rfl⟩
theorem bit_3_l : Statement (.bit_3_l) := ⟨List.cons_ne_nil _ _, rfl⟩
theorem bit_3_atHL : Statement (.bit_3_atHL) := ⟨List.cons_ne_nil _ _, rfl⟩
theorem bit_3_a : Statement (.bit_3_a) := ⟨List.cons_ne_nil _ _, rfl⟩
theorem bit_4_b : Statement (.bit_4_b) := ⟨List.cons_ne_nil _ _, rfl⟩
theorem bit_4_c : Statement (.bit_4_c) := ⟨List.cons_ne_nil _ _, rfl⟩
theorem bit_4_d : Statement (.bit_4_d) := ⟨List.cons_ne_nil _ _, rfl⟩
theorem bit_4_e : Statement (.bit_4_e) := ⟨List.cons_ne_nil _ _, rfl⟩
theorem bit_4_h : Statement (.bit_4_h) := ⟨List.cons_ne_nil _ _, rfl⟩
theorem bit_4_l : Statement (.bit_4_l) := ⟨List.cons_ne_nil _ _, rfl⟩
theorem bit_4_atHL : Statement (.bit_4_atHL) := ⟨List.cons_ne_nil _ _, rfl⟩
theorem bit_4_a : Statement (.bit_4_a) := ⟨List.cons_ne_nil _ _, rfl⟩
theorem bit_5_b : Statement (.bit_5_b) := ⟨List.cons_ne_nil _ _, rfl⟩
theorem bit_5_c : Statement (.bit_5_c) := ⟨List.cons_ne_nil _ _, rfl⟩
theorem bit_5_d : Statement (.bit_5_d) := ⟨List.cons_ne_nil _ _, rfl⟩
theorem bit_5_e : Statement (.bit_5_e) := ⟨List.cons_ne_nil _ _, rfl⟩
theorem bit_5_h : Statement (.bit_5_h) := ⟨List.cons_ne_nil _ _, rfl⟩
theorem bit_5_l : Statement (.bit_5_l) := ⟨List.cons_ne_nil _ _, rfl⟩
theorem bit_5_atHL : Statement (.bit_5_atHL) := ⟨List.cons_ne_nil _ _, rfl⟩
theorem bit_5_a : Statement (.bit_5_a) := ⟨List.cons_ne_nil _ _, rfl⟩
theorem bit_6_b : Statement (.bit_6_b) := ⟨List.cons_ne_nil _ _, rfl⟩
theorem bit_6_c : Statement (.bit_6_c) := ⟨List.cons_ne_nil _ _, rfl⟩
theorem bit_6_d : Statement (.bit_6_d) := ⟨List.cons_ne_nil _ _, rfl⟩
theorem bit_6_e : Statement (.bit_6_e) := ⟨List.cons_ne_nil _ _, rfl⟩
theorem bit_6_h : Statement (.bit_6_h) := ⟨List.cons_ne_nil _ _, rfl⟩
theorem bit_6_l : Statement (.bit_6_l) := ⟨List.cons_ne_nil _ _, rfl⟩
theorem bit_6_atHL : Statement (.bit_6_atHL) := ⟨List.cons_ne_nil _ _, rfl⟩
theorem bit_6_a : Statement (.bit_6_a) := ⟨List.cons_ne_nil _ _, rfl⟩
theorem bit_7_b : Statement (.bit_7_b) := ⟨List.cons_ne_nil _ _, rfl⟩
theorem bit_7_c : Statement (.bit_7_c) := ⟨List.cons_ne_nil _ _, rfl⟩
theorem bit_7_d : Statement (.bit_7_d) := ⟨List.cons_ne_nil _ _, rfl⟩
theorem bit_7_e : Statement (.bit_7_e) := ⟨List.cons_ne_nil _ _, rfl⟩
theorem bit_7_h : Statement (.bit_7_h) := ⟨List.cons_ne_nil _ _, rfl⟩
theorem bit_7_l : Statement (.bit_7_l) := ⟨List.cons_ne_nil _ _, rfl⟩
theorem bit_7_atHL : Statement (.bit_7_atHL) := ⟨List.cons_ne_nil _ _, rfl⟩
theorem bit_7_a : Statement (.bit_7_a) := ⟨List.cons_ne_nil _ _, rfl⟩
theorem res_0_b : Statement (.res_0_b) := ⟨List.cons_ne_nil _ _, rfl⟩
theorem res_0_c : Statement (.res_0_c) := ⟨List.cons_ne_nil _ _, rfl⟩
theorem res_0_d : Statement (.res_0_d) := ⟨List.cons_ne_nil _ _, rfl⟩
theorem res_0_e : Statement (.res_0_e) := ⟨List.cons_ne_nil _ _, rfl⟩
theorem res_0_h : Statement (.res_0_h) := ⟨List.cons_ne_nil _ _, rfl⟩
theorem res_0_l : Statement (.res_0_l) := ⟨List.cons_ne_nil _ _, rfl⟩
theorem res_0_atHL : Statement (.res_0_atHL) := ⟨List.cons_ne_nil _ _, rfl⟩
theorem res_0_a : Statement (.res_0_a) := ⟨List.cons_ne_nil _ _, rfl⟩
theorem res_1_b : Statement (.res_1_b) := ⟨List.cons_ne_nil _ _, rfl⟩
theorem res_1_c : Statement (.res_1_c) := ⟨List.cons_ne_nil _ _, rfl⟩
theorem res_1_d : Statement (.res_1_d) := ⟨List.cons_ne_nil _ _, rfl⟩
theorem res_1_e : Statement (.res_1_e) := ⟨List.cons_ne_nil _ _, rfl⟩
theorem res_1_h : Statement (.res_1_h) := ⟨List.cons_ne_nil _ _, rfl⟩
theorem res_1_l : Statement (.res_1_l) := ⟨List.cons_ne_nil _ _, rfl⟩
theorem res_1_atHL : Statement (.res_1_atHL) := ⟨List.cons_ne_nil _ _, rfl⟩
theorem res_1_a : Statement (.res_1_a) := ⟨List.cons_ne_nil _ _, rfl⟩
theorem res_2_b : Statement (.res_2_b) := ⟨List.cons_ne_nil _ _, rfl⟩
theorem res_2_c : Statement (.res_2_c) := ⟨List.cons_ne_nil _ _, rfl⟩
theorem res_2_d : Statement (.res_2_d) := ⟨List.cons_ne_nil _ _, rfl⟩
theorem res_2_e : Statement (.res_2_e) := ⟨List.cons_ne_nil _ _, rfl⟩
theorem res_2_h : Statement (.res_2_h) := ⟨List.cons_ne_nil _ _, rfl⟩
theorem res_2_l : Statement (.res_2_l) := ⟨List.cons_ne_nil _ _, rfl⟩
theorem res_2_atHL : Statement (.res_2_atHL) := ⟨List.cons_ne_nil _ _, rfl⟩
theorem res_2_a : Statement (.res_2_a) := ⟨List.cons_ne_nil _ _, rfl⟩
theorem res_3_b : Statement (.res_3_b) := ⟨List.cons_ne_nil _ _, rfl⟩
theorem res_3_c : Statement (.res_3_c) := ⟨List.cons_ne_nil _ _, rfl⟩
theorem res_3_d : Statement (.res_3_d) := ⟨List.cons_ne_nil _ _, rfl⟩
theorem res_3_e : Statement (.res_3_e) := ⟨List.cons_ne_nil _ _, rfl⟩
theorem res_3_h : Statement (.res_3_h) := ⟨List.cons_ne_nil _ _, rfl⟩
theorem res_3_l : Statement (.res_3_l) := ⟨List.cons_ne_nil _ _, rfl⟩
theorem res_3_atHL : Statement (.res_3_atHL) := ⟨List.cons_ne_nil _ _, rfl⟩
theorem res_3_a : Statement (.res_3_a) := ⟨List.cons_ne_nil _ _, rfl⟩
theorem res_4_b : Statement (.res_4_b) := ⟨List.cons_ne_nil _ _, rfl⟩
theorem res_4_c : Statement (.res_4_c) := ⟨List.cons_ne_nil _ _, rfl⟩
theorem res_4_d : Statement (.res_4_d) := ⟨List.cons_ne_nil _ _, rfl⟩
theorem res_4_e : Statement (.res_4_e) := ⟨List.cons_ne_nil _ _, rfl⟩
theorem res_4_h : Statement (.res_4_h) := ⟨List.cons_ne_nil _ _, rfl⟩
theorem res_4_l : Statement (.res_4_l) := ⟨List.cons_ne_nil _ _, rfl⟩
theorem res_4_atHL : Statement (.res_4_atHL) := ⟨List.cons_ne_nil _ _, rfl⟩
theorem res_4_a : Statement (.res_4_a) := ⟨List.cons_ne_nil _ _, rfl⟩
theorem res_5_b : Statement (.res_5_b) := ⟨List.cons_ne_nil _ _, rfl⟩
theorem res_5_c : Statement (.res_5_c) := ⟨List.cons_ne_nil _ _, rfl⟩
theorem res_5_d : Statement (.res_5_d) := ⟨List.cons_ne_nil _ _, rfl⟩
theorem res_5_e : Statement (.res_5_e) := ⟨List.cons_ne_nil _ _, rfl⟩
theorem res_5_h : Statement (.res_5_h) := ⟨List.cons_ne_nil _ _, rfl⟩
theorem res_5_l : Statement (.res_5_l) := ⟨List.cons_ne_nil _ _, rfl⟩
theorem res_5_atHL : Statement (.res_5_atHL) := ⟨List.cons_ne_nil _ _, rfl⟩
theorem res_5_a : Statement (.res_5_a) := ⟨List.cons_ne_nil _ _, rfl⟩
theorem res_6_b : Statement (.res_6_b) := ⟨List.cons_ne_nil _ _, rfl⟩
theorem res_6_c : Statement (.res_6_c) := ⟨List.cons_ne_nil _ _, rfl⟩
theorem res_6_d : Statement (.res_6_d) := ⟨List.cons_ne_nil _ _, rfl⟩
theorem res_6_e : Statement (.res_6_e) := ⟨List.cons_ne_nil _ _, rfl⟩
theorem res_6_h : Statement (.res_6_h) := ⟨List.cons_ne_nil _ _, rfl⟩
theorem res_6_l : Statement (.res_6_l) := ⟨List.cons_ne_nil _ _, rfl⟩
theorem res_6_atHL : Statement (.res_6_atHL) := ⟨List.cons_ne_nil _ _, rfl⟩
theorem res_6_a : Statement (.res_6_a) := ⟨List.cons_ne_nil _ _, rfl⟩
theorem res_7_b : Statement (.res_7_b) := ⟨List.cons_ne_nil _ _, rfl⟩
theorem res_7_c : Statement (.res_7_c) := ⟨List.cons_ne_nil _ _, rfl⟩
theorem res_7_d : Statement (.res_7_d) := ⟨List.cons_ne_nil _ _, rfl⟩
theorem res_7_e : Statement (.res_7_e) := ⟨List.cons_ne_nil _ _, rfl⟩
theorem res_7_h : Statement (.res_7_h) := ⟨List.cons_ne_nil _ _, rfl⟩
theorem res_7_l : Statement (.res_7_l) := ⟨List.cons_ne_nil _ _, rfl⟩
theorem res_7_atHL : Statement (.res_7_atHL) := ⟨List.cons_ne_nil _ _, rfl⟩
theorem res_7_a : Statement (.res_7_a) := ⟨List.cons_ne_nil _ _, rfl⟩
theorem set_0_b : Statement (.set_0_b) := ⟨List.cons_ne_nil _ _, rfl⟩
theorem set_0_c : Statement (.set_0_c) := ⟨List.cons_ne_nil _ _, rfl⟩
theorem set_0_d : Statement (.set_0_d) := ⟨List.cons_ne_nil _ _, rfl⟩
theorem set_0_e : Statement (.set_0_e) := ⟨List.cons_ne_nil _ _, rfl⟩
theorem set_0_h : Statement (.set_0_h) := ⟨List.cons_ne_nil _ _, rfl⟩
theorem set_0_l : Statement (.set_0_l) := ⟨List.cons_ne_nil _ _, rfl⟩
theorem set_0_atHL : Statement (.set_0_atHL) := ⟨List.cons_ne_nil _ _, rfl⟩
theorem set_0_a : Statement (.set_0_a) := ⟨List.cons_ne_nil _ _, rfl⟩
theorem set_1_b : Statement (.set_1_b) := ⟨List.cons_ne_nil _ _, rfl⟩
theorem set_1_c : Statement (.set_1_c) := ⟨List.cons_ne_nil _ _, rfl⟩
theorem set_1_d : Statement (.set_1_d) := ⟨List.cons_ne_nil _ _, rfl⟩
theorem set_1_e : Statement (.set_1_e) := ⟨List.cons_ne_nil _ _, rfl⟩
theorem set_1_h : Statement (.set_1_h) := ⟨List.cons_ne_nil _ _, rfl⟩
theorem set_1_l : Statement (.set_1_l) := ⟨List.cons_ne_nil _ _, rfl⟩
theorem set_1_atHL : Statement (.set_1_atHL) := ⟨List.cons_ne_nil _ _, rfl⟩
theorem set_1_a : Statement (.set_1_a) := ⟨List.cons_ne_nil _ _, rfl⟩
theorem set_2_b : Statement (.set_2_b) := ⟨List.cons_ne_nil _ _, rfl⟩
theorem set_2_c : Statement (.set_2_c) := ⟨List.cons_ne_nil _ _, rfl⟩
theorem set_2_d : Statement (.set_2_d) := ⟨List.cons_ne_nil _ _, rfl⟩
theorem set_2_e : Statement (.set_2_e) := ⟨List.cons_ne_nil _ _, rfl⟩
theorem set_2_h : Statement (.set_2_h) := ⟨List.cons_ne_nil _ _, rfl⟩
theorem set_2_l : Statement (.set_2_l) := ⟨List.cons_ne_nil _ _, rfl⟩
theorem set_2_atHL : Statement (.set_2_atHL) := ⟨List.cons_ne_nil _ _, rfl⟩
theorem set_2_a : Statement (.set_2_a) := ⟨List.cons_ne_nil _ _, rfl⟩
theorem set_3_b : Statement (.set_3_b) := ⟨List.cons_ne_nil _ _, rfl⟩
theorem set_3_c : Statement (.set_3_c) := ⟨List.cons_ne_nil _ _, rfl⟩
theorem set_3_d : Statement (.set_3_d) := ⟨List.cons_ne_nil _ _, rfl⟩
theorem set_3_e : Statement (.set_3_e) := ⟨List.cons_ne_nil _ _, rfl⟩
theorem set_3_h : Statement (.set_3_h) := ⟨List.cons_ne_nil _ _, rfl⟩
theorem set_3_l : Statement (.set_3_l) := ⟨List.cons_ne_nil _ _, rfl⟩
theorem set_3_atHL : Statement (.set_3_atHL) := ⟨List.cons_ne_nil _ _, rfl⟩
theorem set_3_a : Statement (.set_3_a) := ⟨List.cons_ne_nil _ _, rfl⟩
theorem set_4_b : Statement (.set_4_b) := ⟨List.cons_ne_nil _ _, rfl⟩
theorem set_4_c : Statement (.set_4_c) := ⟨List.cons_ne_nil _ _, rfl⟩
theorem set_4_d : Statement (.set_4_d) := ⟨List.cons_ne_nil _ _, rfl⟩
theorem set_4_e : Statement (.set_4_e) := ⟨List.cons_ne_nil _ _, rfl⟩
theorem set_4_h : Statement (.set_4_h) := ⟨List.cons_ne_nil _ _, rfl⟩
theorem set_4_l : Statement (.set_4_l) := ⟨List.cons_ne_nil _ _, rfl⟩
theorem set_4_atHL : Statement (.set_4_atHL) := ⟨List.cons_ne_nil _ _, rfl⟩
theorem set_4_a : Statement (.set_4_a) := ⟨List.cons_ne_nil _ _, rfl⟩
theorem set_5_b : Statement (.set_5_b) := ⟨List.cons_ne_nil _ _, rfl⟩
theorem set_5_c : Statement (.set_5_c) := ⟨List.cons_ne_nil _ _, rfl⟩
theorem set_5_d : Statement (.set_5_d) := ⟨List.cons_ne_nil _ _, rfl⟩
theorem set_5_e : Statement (.set_5_e) := ⟨List.cons_ne_nil _ _, rfl⟩
theorem set_5_h : Statement (.set_5_h) := ⟨List.cons_ne_nil _ _, rfl⟩
theorem set_5_l : Statement (.set_5_l) := ⟨List.cons_ne_nil _ _, rfl⟩
theorem set_5_atHL : Statement (.set_5_atHL) := ⟨List.cons_ne_nil _ _, rfl⟩
theorem set_5_a : Statement (.set_5_a) := ⟨List.cons_ne_nil _ _, rfl⟩
theorem set_6_b : Statement (.set_6_b) := ⟨List.cons_ne_nil _ _, rfl⟩
theorem set_6_c : Statement (.set_6_c) := ⟨List.cons_ne_nil _ _, rfl⟩
theorem set_6_d : Statement (.set_6_d) := ⟨List.cons_ne_nil _ _, rfl⟩
theorem set_6_e : Statement (.set_6_e) := ⟨List.cons_ne_nil _ _, rfl⟩
theorem set_6_h : Statement (.set_6_h) := ⟨List.cons_ne_nil _ _, rfl⟩
theorem set_6_l : Statement (.set_6_l) := ⟨List.cons_ne_nil _ _, rfl⟩
theorem set_6_atHL : Statement (.set_6_atHL) := ⟨List.cons_ne_nil _ _, rfl⟩
theorem set_6_a : Statement (.set_6_a) := ⟨List.cons_ne_nil _ _, rfl⟩
theorem set_7_b : Statement (.set_7_b) := ⟨List.cons_ne_nil _ _, rfl⟩
theorem set_7_c : Statement (.set_7_c) := ⟨List.cons_ne_nil _ _, rfl⟩
theorem set_7_d : Statement (.set_7_d) := ⟨List.cons_ne_nil _ _, rfl⟩
theorem set_7_e : Statement (.set_7_e) := ⟨List.cons_ne_nil _ _, rfl⟩
theorem set_7_h : Statement (.set_7_h) := ⟨List.cons_ne_nil _ _, rfl⟩
theorem set_7_l : Statement (.set_7_l) := ⟨List.cons_ne_nil _ _, rfl⟩
theorem set_7_atHL : Statement (.set_7_atHL) := ⟨List.cons_ne_nil _ _, rfl⟩
theorem set_7_a : Statement (.set_7_a) := ⟨List.cons_ne_nil _ _, rfl⟩

end Sys2Proof.Laws.EncodedLength
end

