-- ==== Sys2Proof/Tests/Slice0.lean ====
section
/-! SUPPORT. Tests: the ill-formed terms, every word of the opcode table, vectors of 95_test_vectors.md, the placing of an
instruction, and for every statement with hypotheses a concrete state that meets them. -/

namespace Sys2Proof.Tests

open Sys2Proof Sys2Proof.Machine

/-! ## Well-formedness -/

/-- The prefix row is no instruction of its own: its words are those of the CB rows (30_encoding.md R131). -/
theorem test_wf_refuses_the_prefix_row : (Instr.prefixCB 0x37).wf = false := rfl

theorem test_wf_accepts_the_row_behind_it : Instr.swap_a.wf = true ∧ decode [0xCB, 0x37] = .ok (.swap_a, []) := ⟨rfl, rfl⟩

/-! ## Decoding: every word of the opcode table, 30_encoding.md R132 and R131

The words are the table's own, in its order; the operand bytes, where there are any, are 0x34 and 0x12. -/

/-- The instruction of each opcode byte of row `hi`. -/
def row (hi : Nat) : List Instr := (List.range 16).map fun lo => decodeBytes (BitVec.ofNat 8 (16 * hi + lo)) 0x34 0x12

/-- The instruction of each second byte of row `hi` after 0xCB. -/
def rowCB (hi : Nat) : List Instr := (List.range 16).map fun lo => decodeBytes 0xCB (BitVec.ofNat 8 (16 * hi + lo)) 0

theorem test_decode_rows_0_to_3 :
    row 0x0 =
    [.nop, .ld_bc_d16 0x1234, .ld_atBC_a, .inc_bc, .inc_b, .dec_b, .ld_b_d8 0x34, .rlca, .ld_atA16_sp 0x1234,
     .add_hl_bc, .ld_a_atBC, .dec_bc, .inc_c, .dec_c, .ld_c_d8 0x34, .rrca]
      ∧ row 0x1 =
    [.stop 0x34, .ld_de_d16 0x1234, .ld_atDE_a, .inc_de, .inc_d, .dec_d, .ld_d_d8 0x34, .rla, .jr_e8 0x34,
     .add_hl_de, .ld_a_atDE, .dec_de, .inc_e, .dec_e, .ld_e_d8 0x34, .rra]
      ∧ row 0x2 =
    [.jr_nz_e8 0x34, .ld_hl_d16 0x1234, .ld_atHLinc_a, .inc_hl, .inc_h, .dec_h, .ld_h_d8 0x34, .daa, .jr_z_e8 0x34,
     .add_hl_hl, .ld_a_atHLinc, .dec_hl, .inc_l, .dec_l, .ld_l_d8 0x34, .cpl]
      ∧ row 0x3 =
    [.jr_nc_e8 0x34, .ld_sp_d16 0x1234, .ld_atHLdec_a, .inc_sp, .inc_atHL, .dec_atHL, .ld_atHL_d8 0x34, .scf,
     .jr_c_e8 0x34, .add_hl_sp, .ld_a_atHLdec, .dec_sp, .inc_a, .dec_a, .ld_a_d8 0x34, .ccf] := ⟨rfl, rfl, rfl, rfl⟩

theorem test_decode_rows_4_to_7 :
    row 0x4 =
    [.ld_b_b, .ld_b_c, .ld_b_d, .ld_b_e, .ld_b_h, .ld_b_l, .ld_b_atHL, .ld_b_a, .ld_c_b, .ld_c_c, .ld_c_d, .ld_c_e,
     .ld_c_h, .ld_c_l, .ld_c_atHL, .ld_c_a]
      ∧ row 0x5 =
    [.ld_d_b, .ld_d_c, .ld_d_d, .ld_d_e, .ld_d_h, .ld_d_l, .ld_d_atHL, .ld_d_a, .ld_e_b, .ld_e_c, .ld_e_d, .ld_e_e,
     .ld_e_h, .ld_e_l, .ld_e_atHL, .ld_e_a]
      ∧ row 0x6 =
    [.ld_h_b, .ld_h_c, .ld_h_d, .ld_h_e, .ld_h_h, .ld_h_l, .ld_h_atHL, .ld_h_a, .ld_l_b, .ld_l_c, .ld_l_d, .ld_l_e,
     .ld_l_h, .ld_l_l, .ld_l_atHL, .ld_l_a]
      ∧ row 0x7 =
    [.ld_atHL_b, .ld_atHL_c, .ld_atHL_d, .ld_atHL_e, .ld_atHL_h, .ld_atHL_l, .halt, .ld_atHL_a, .ld_a_b, .ld_a_c,
     .ld_a_d, .ld_a_e, .ld_a_h, .ld_a_l, .ld_a_atHL, .ld_a_a] := ⟨rfl, rfl, rfl, rfl⟩

theorem test_decode_rows_8_to_B :
    row 0x8 =
    [.add_a_b, .add_a_c, .add_a_d, .add_a_e, .add_a_h, .add_a_l, .add_a_atHL, .add_a_a, .adc_a_b, .adc_a_c, .adc_a_d,
     .adc_a_e, .adc_a_h, .adc_a_l, .adc_a_atHL, .adc_a_a]
      ∧ row 0x9 =
    [.sub_b, .sub_c, .sub_d, .sub_e, .sub_h, .sub_l, .sub_atHL, .sub_a, .sbc_a_b, .sbc_a_c, .sbc_a_d, .sbc_a_e,
     .sbc_a_h, .sbc_a_l, .sbc_a_atHL, .sbc_a_a]
      ∧ row 0xA =
    [.and_b, .and_c, .and_d, .and_e, .and_h, .and_l, .and_atHL, .and_a, .xor_b, .xor_c, .xor_d, .xor_e, .xor_h,
     .xor_l, .xor_atHL, .xor_a]
      ∧ row 0xB =
    [.or_b, .or_c, .or_d, .or_e, .or_h, .or_l, .or_atHL, .or_a, .cp_b, .cp_c, .cp_d, .cp_e, .cp_h, .cp_l, .cp_atHL,
     .cp_a] := ⟨rfl, rfl, rfl, rfl⟩

theorem test_decode_rows_C_to_F :
    row 0xC =
    [.ret_nz, .pop_bc, .jp_nz_a16 0x1234, .jp_a16 0x1234, .call_nz_a16 0x1234, .push_bc, .add_a_d8 0x34, .rst_00,
     .ret_z, .ret, .jp_z_a16 0x1234, .swap_h, .call_z_a16 0x1234, .call_a16 0x1234, .adc_a_d8 0x34, .rst_08]
      ∧ row 0xD =
    [.ret_nc, .pop_de, .jp_nc_a16 0x1234, .illegal_d3, .call_nc_a16 0x1234, .push_de, .sub_d8 0x34, .rst_10, .ret_c,
     .reti, .jp_c_a16 0x1234, .illegal_db, .call_c_a16 0x1234, .illegal_dd, .sbc_a_d8 0x34, .rst_18]
      ∧ row 0xE =
    [.ldh_atA8_a 0x34, .pop_hl, .ldh_atC_a, .illegal_e3, .illegal_e4, .push_hl, .and_d8 0x34, .rst_20,
     .add_sp_e8 0x34, .jp_hl, .ld_atA16_a 0x1234, .illegal_eb, .illegal_ec, .illegal_ed, .xor_d8 0x34, .rst_28]
      ∧ row 0xF =
    [.ldh_a_atA8 0x34, .pop_af, .ldh_a_atC, .di, .illegal_f4, .push_af, .or_d8 0x34, .rst_30, .ld_hl_spE8 0x34,
     .ld_sp_hl, .ld_a_atA16 0x1234, .ei, .illegal_fc, .illegal_fd, .cp_d8 0x34, .rst_38] := ⟨rfl, rfl, rfl, rfl⟩

theorem test_decode_cb_rows_0_to_3 :
    rowCB 0x0 =
    [.rlc_b, .rlc_c, .rlc_d, .rlc_e, .rlc_h, .rlc_l, .rlc_atHL, .rlc_a, .rrc_b, .rrc_c, .rrc_d, .rrc_e, .rrc_h,
     .rrc_l, .rrc_atHL, .rrc_a]
      ∧ rowCB 0x1 =
    [.rl_b, .rl_c, .rl_d, .rl_e, .rl_h, .rl_l, .rl_atHL, .rl_a, .rr_b, .rr_c, .rr_d, .rr_e, .rr_h, .rr_l, .rr_atHL,
     .rr_a]
      ∧ rowCB 0x2 =
    [.sla_b, .sla_c, .sla_d, .sla_e, .sla_h, .sla_l, .sla_atHL, .sla_a, .sra_b, .sra_c, .sra_d, .sra_e, .sra_h,
     .sra_l, .sra_atHL, .sra_a]
      ∧ rowCB 0x3 =
    [.swap_b, .swap_c, .swap_d, .swap_e, .swap_h, .swap_l, .swap_atHL, .swap_a, .srl_b, .srl_c, .srl_d, .srl_e,
     .srl_h, .srl_l, .srl_atHL, .srl_a] := ⟨rfl, rfl, rfl, rfl⟩

theorem test_decode_cb_rows_4_to_7 :
    rowCB 0x4 =
    [.bit_0_b, .bit_0_c, .bit_0_d, .bit_0_e, .bit_0_h, .bit_0_l, .bit_0_atHL, .bit_0_a, .bit_1_b, .bit_1_c, .bit_1_d,
     .bit_1_e, .bit_1_h, .bit_1_l, .bit_1_atHL, .bit_1_a]
      ∧ rowCB 0x5 =
    [.bit_2_b, .bit_2_c, .bit_2_d, .bit_2_e, .bit_2_h, .bit_2_l, .bit_2_atHL, .bit_2_a, .bit_3_b, .bit_3_c, .bit_3_d,
     .bit_3_e, .bit_3_h, .bit_3_l, .bit_3_atHL, .bit_3_a]
      ∧ rowCB 0x6 =
    [.bit_4_b, .bit_4_c, .bit_4_d, .bit_4_e, .bit_4_h, .bit_4_l, .bit_4_atHL, .bit_4_a, .bit_5_b, .bit_5_c, .bit_5_d,
     .bit_5_e, .bit_5_h, .bit_5_l, .bit_5_atHL, .bit_5_a]
      ∧ rowCB 0x7 =
    [.bit_6_b, .bit_6_c, .bit_6_d, .bit_6_e, .bit_6_h, .bit_6_l, .bit_6_atHL, .bit_6_a, .bit_7_b, .bit_7_c, .bit_7_d,
     .bit_7_e, .bit_7_h, .bit_7_l, .bit_7_atHL, .bit_7_a] := ⟨rfl, rfl, rfl, rfl⟩

theorem test_decode_cb_rows_8_to_B :
    rowCB 0x8 =
    [.res_0_b, .res_0_c, .res_0_d, .res_0_e, .res_0_h, .res_0_l, .res_0_atHL, .res_0_a, .res_1_b, .res_1_c, .res_1_d,
     .res_1_e, .res_1_h, .res_1_l, .res_1_atHL, .res_1_a]
      ∧ rowCB 0x9 =
    [.res_2_b, .res_2_c, .res_2_d, .res_2_e, .res_2_h, .res_2_l, .res_2_atHL, .res_2_a, .res_3_b, .res_3_c, .res_3_d,
     .res_3_e, .res_3_h, .res_3_l, .res_3_atHL, .res_3_a]
      ∧ rowCB 0xA =
    [.res_4_b, .res_4_c, .res_4_d, .res_4_e, .res_4_h, .res_4_l, .res_4_atHL, .res_4_a, .res_5_b, .res_5_c, .res_5_d,
     .res_5_e, .res_5_h, .res_5_l, .res_5_atHL, .res_5_a]
      ∧ rowCB 0xB =
    [.res_6_b, .res_6_c, .res_6_d, .res_6_e, .res_6_h, .res_6_l, .res_6_atHL, .res_6_a, .res_7_b, .res_7_c, .res_7_d,
     .res_7_e, .res_7_h, .res_7_l, .res_7_atHL, .res_7_a] := ⟨rfl, rfl, rfl, rfl⟩

theorem test_decode_cb_rows_C_to_F :
    rowCB 0xC =
    [.set_0_b, .set_0_c, .set_0_d, .set_0_e, .set_0_h, .set_0_l, .set_0_atHL, .set_0_a, .set_1_b, .set_1_c, .set_1_d,
     .set_1_e, .set_1_h, .set_1_l, .set_1_atHL, .set_1_a]
      ∧ rowCB 0xD =
    [.set_2_b, .set_2_c, .set_2_d, .set_2_e, .set_2_h, .set_2_l, .set_2_atHL, .set_2_a, .set_3_b, .set_3_c, .set_3_d,
     .set_3_e, .set_3_h, .set_3_l, .set_3_atHL, .set_3_a]
      ∧ rowCB 0xE =
    [.set_4_b, .set_4_c, .set_4_d, .set_4_e, .set_4_h, .set_4_l, .set_4_atHL, .set_4_a, .set_5_b, .set_5_c, .set_5_d,
     .set_5_e, .set_5_h, .set_5_l, .set_5_atHL, .set_5_a]
      ∧ rowCB 0xF =
    [.set_6_b, .set_6_c, .set_6_d, .set_6_e, .set_6_h, .set_6_l, .set_6_atHL, .set_6_a, .set_7_b, .set_7_c, .set_7_d,
     .set_7_e, .set_7_h, .set_7_l, .set_7_atHL, .set_7_a] := ⟨rfl, rfl, rfl, rfl⟩

/-- The order of an operand's bytes, what follows an instruction, and the two ways a list of bytes can be too short. -/
theorem test_decode_ends :
    decode [0x11, 0xCD, 0xAB, 0x00] = .ok (.ld_de_d16 0xABCD, [0x00]) ∧ decode [] = .error .noBytes
      ∧ decode [0xC3, 0x00] = .error (.truncated 0xC3) ∧ decode [0xCB] = .error (.truncated 0xCB) := ⟨rfl, rfl, rfl, rfl⟩

/-- The table's words, numbered from the first byte up, and the CB rows as the table writes them. -/
theorem test_table_words :
    decodeTableWord 8 0x76 = some .halt ∧ decodeTableWord 8 0xC3 = some (.jp_a16 0) ∧ decodeTableWord 16 0x37CB = some .swap_a
      ∧ decodeTableWord 16 0xCB37 = some .swap_a ∧ decodeTableWord 8 0xDD = some .illegal_dd := ⟨rfl, rfl, rfl, rfl, rfl⟩

/-! ## One step: vectors of 95_test_vectors.md section 2 -/

/-- `bytes` at 0xC000 and `pc` there, the rest as after reset (95_test_vectors.md section 2.0). -/
def loaded (bytes : List Byte) : State :=
  { State.reset with cpu.pc := 0xC000, mem.wram := Cells.ofList (bytes.zipIdx.map fun p => (p.2, p.1)) }

/-- `s` with the byte `v` at `a`. -/
def State.at (s : State) (a : Word) (v : Byte) : State := s.busWrite a v

/-- `p` of the state after one step. -/
def after1 (s : State) (p : State → Bool) : Bool :=
  match step s with
  | .next t => p t
  | .fault _ => false
  | .refused _ => false

theorem test_vectors_byte_loads : [
    -- LD D,(HL)
    after1 (State.at { loaded [0x56] with cpu.h := 0xC1, cpu.l := 0x00 } 0xC100 0x5A)
      (fun t => t.cpu.d == 0x5A && t.cpu.e == 0xD8 && t.cpu.pc == 0xC001 && t.t == 8),
    -- LD (HL),L
    after1 { loaded [0x75] with cpu.h := 0xC1, cpu.l := 0xA5 }
      (fun t => t.cpu.pc == 0xC001 && t.busRead 0xC1A5 == 0xA5 && t.t == 8),
    -- LD A,(0xC123)
    after1 (State.at (loaded [0xFA, 0x23, 0xC1]) 0xC123 0xEE)
      (fun t => t.cpu.a == 0xEE && t.cpu.pc == 0xC003 && t.t == 16),
    -- LDH (C),A
    after1 { loaded [0xE2] with cpu.c := 0x81, cpu.a := 0x22 }
      (fun t => t.cpu.pc == 0xC001 && t.busRead 0xFF81 == 0x22 && t.t == 8),
    -- LDH A,(0x90)
    after1 (State.at (loaded [0xF0, 0x90]) 0xFF90 0x33)
      (fun t => t.cpu.a == 0x33 && t.cpu.pc == 0xC002 && t.t == 12),
    -- LD A,(HL+)
    after1 (State.at { loaded [0x2A] with cpu.h := 0xC1, cpu.l := 0xFF } 0xC1FF 0x66)
      (fun t => t.cpu.a == 0x66 && t.cpu.h == 0xC2 && t.cpu.l == 0x00 && t.cpu.pc == 0xC001 && t.t == 8),
    -- LD (HL+),A, HL wraps
    after1 { loaded [0x22] with cpu.h := 0xFF, cpu.l := 0xFF, cpu.a := 0x1F }
      (fun t => t.cpu.h == 0x00 && t.cpu.l == 0x00 && t.cpu.pc == 0xC001 && t.busRead 0xFFFF == 0x1F && t.t == 8),
    -- LD A,(0xFEA0) unmapped
    after1 { loaded [0xFA, 0xA0, 0xFE] with cpu.a := 0x00 }
      (fun t => t.cpu.a == 0xFF && t.cpu.pc == 0xC003 && t.t == 16),
    -- LD A,(0xE123) echo
    after1 (State.at (loaded [0xFA, 0x23, 0xE1]) 0xC123 0xEE)
      (fun t => t.cpu.a == 0xEE && t.cpu.pc == 0xC003 && t.t == 16)].all id = true := by decide +kernel

theorem test_vectors_word_loads_and_stack : [
    -- LD (0xC100),SP
    after1 { loaded [0x08, 0x00, 0xC1] with cpu.sp := 0xBEEF }
      (fun t => t.cpu.pc == 0xC003 && t.busRead 0xC100 == 0xEF && t.busRead 0xC101 == 0xBE && t.t == 20),
    -- LD HL,SP-1
    after1 { loaded [0xF8, 0xFF] with cpu.sp := 0x0000 }
      (fun t => t.cpu.f.toByte == 0x00 && t.cpu.h == 0xFF && t.cpu.l == 0xFF && t.cpu.pc == 0xC002 && t.t == 12),
    -- LD HL,SP+0x0F
    after1 { loaded [0xF8, 0x0F] with cpu.sp := 0xFFF1 }
      (fun t => t.cpu.f.toByte == 0x30 && t.cpu.h == 0x00 && t.cpu.l == 0x00 && t.cpu.pc == 0xC002 && t.t == 12),
    -- PUSH AF
    after1 { loaded [0xF5] with cpu.a := 0x12, cpu.f := Flags.ofByte 0xB0, cpu.sp := 0xD000 }
      (fun t => t.cpu.sp == 0xCFFE && t.cpu.pc == 0xC001 && t.busRead 0xCFFF == 0x12 && t.busRead 0xCFFE == 0xB0 && t.t == 16),
    -- POP DE
    after1 (State.at (State.at { loaded [0xD1] with cpu.sp := 0xCFFE } 0xCFFE 0x78) 0xCFFF 0x56)
      (fun t => t.cpu.d == 0x56 && t.cpu.e == 0x78 && t.cpu.sp == 0xD000 && t.cpu.pc == 0xC001 && t.t == 12),
    -- POP AF (low nibble dropped)
    after1 (State.at (State.at { loaded [0xF1] with cpu.sp := 0xCFFE } 0xCFFE 0xFF) 0xCFFF 0x12)
      (fun t => t.cpu.a == 0x12 && t.cpu.f.toByte == 0xF0 && t.cpu.sp == 0xD000 && t.cpu.pc == 0xC001 && t.t == 12),
    -- PUSH HL, SP wraps
    after1 { loaded [0xE5] with cpu.h := 0xA5, cpu.l := 0x5A, cpu.sp := 0x0001 }
      (fun t => t.cpu.sp == 0xFFFF && t.cpu.pc == 0xC001 && t.busRead 0xFFFF == 0x5A && t.t == 16)].all id = true := by decide +kernel

theorem test_vectors_byte_arithmetic_1 : [
    -- ADD A,B
    after1 { loaded [0x80] with cpu.a := 0x3A, cpu.b := 0xC6 }
      (fun t => t.cpu.a == 0x00 && t.cpu.f.toByte == 0xB0 && t.cpu.pc == 0xC001 && t.t == 4),
    -- ADD A,A
    after1 { loaded [0x87] with cpu.a := 0x88 }
      (fun t => t.cpu.a == 0x10 && t.cpu.f.toByte == 0x30 && t.cpu.pc == 0xC001 && t.t == 4),
    -- ADC A,E carry in
    after1 { loaded [0x8B] with cpu.a := 0xE1, cpu.e := 0x0F, cpu.f := Flags.ofByte 0x10 }
      (fun t => t.cpu.a == 0xF1 && t.cpu.f.toByte == 0x20 && t.cpu.pc == 0xC001 && t.t == 4),
    -- ADC A,0x00 0xFF+C
    after1 { loaded [0xCE, 0x00] with cpu.a := 0xFF, cpu.f := Flags.ofByte 0x10 }
      (fun t => t.cpu.a == 0x00 && t.cpu.f.toByte == 0xB0 && t.cpu.pc == 0xC002 && t.t == 8),
    -- SUB E
    after1 { loaded [0x93] with cpu.a := 0x3E, cpu.e := 0x3E }
      (fun t => t.cpu.a == 0x00 && t.cpu.f.toByte == 0xC0 && t.cpu.pc == 0xC001 && t.t == 4),
    -- SUB 0x0F
    after1 { loaded [0xD6, 0x0F] with cpu.a := 0x3E }
      (fun t => t.cpu.a == 0x2F && t.cpu.f.toByte == 0x60 && t.cpu.pc == 0xC002 && t.t == 8),
    -- SBC A,H
    after1 { loaded [0x9C] with cpu.a := 0x3B, cpu.h := 0x2A, cpu.f := Flags.ofByte 0x10 }
      (fun t => t.cpu.a == 0x10 && t.cpu.f.toByte == 0x40 && t.cpu.pc == 0xC001 && t.t == 4),
    -- SBC A,0xFF borrow
    after1 { loaded [0xDE, 0xFF] with cpu.a := 0x00, cpu.f := Flags.ofByte 0x10 }
      (fun t => t.cpu.f.toByte == 0xF0 && t.cpu.pc == 0xC002 && t.t == 8),
    -- AND L
    after1 { loaded [0xA5] with cpu.a := 0x5A, cpu.l := 0x3F }
      (fun t => t.cpu.a == 0x1A && t.cpu.f.toByte == 0x20 && t.cpu.pc == 0xC001 && t.t == 4),
    -- AND 0x00
    after1 { loaded [0xE6, 0x00] with cpu.a := 0x5A }
      (fun t => t.cpu.a == 0x00 && t.cpu.f.toByte == 0xA0 && t.cpu.pc == 0xC002 && t.t == 8),
    -- XOR A
    after1 { loaded [0xAF] with cpu.a := 0x5A }
      (fun t => t.cpu.a == 0x00 && t.cpu.f.toByte == 0x80 && t.cpu.pc == 0xC001 && t.t == 4),
    -- XOR 0x0F
    after1 { loaded [0xEE, 0x0F] with cpu.a := 0xFF }
      (fun t => t.cpu.a == 0xF0 && t.cpu.f.toByte == 0x00 && t.cpu.pc == 0xC002 && t.t == 8)].all id = true := by decide +kernel

theorem test_vectors_byte_arithmetic_2 : [
    -- OR C
    after1 { loaded [0xB1] with cpu.a := 0x5A, cpu.c := 0x0F }
      (fun t => t.cpu.a == 0x5F && t.cpu.f.toByte == 0x00 && t.cpu.pc == 0xC001 && t.t == 4),
    -- OR 0x00
    after1 { loaded [0xF6, 0x00] with cpu.a := 0x00 }
      (fun t => t.cpu.f.toByte == 0x80 && t.cpu.pc == 0xC002 && t.t == 8),
    -- CP B equal
    after1 { loaded [0xB8] with cpu.a := 0x3C, cpu.b := 0x3C }
      (fun t => t.cpu.f.toByte == 0xC0 && t.cpu.pc == 0xC001 && t.t == 4),
    -- CP 0x40 less
    after1 { loaded [0xFE, 0x40] with cpu.a := 0x3C }
      (fun t => t.cpu.f.toByte == 0x50 && t.cpu.pc == 0xC002 && t.t == 8),
    -- INC A wrap
    after1 { loaded [0x3C] with cpu.a := 0xFF, cpu.f := Flags.ofByte 0x10 }
      (fun t => t.cpu.a == 0x00 && t.cpu.f.toByte == 0xB0 && t.cpu.pc == 0xC001 && t.t == 4),
    -- INC B half
    after1 { loaded [0x04] with cpu.b := 0x0F, cpu.f := Flags.ofByte 0x00 }
      (fun t => t.cpu.f.toByte == 0x20 && t.cpu.b == 0x10 && t.cpu.c == 0x13 && t.cpu.pc == 0xC001 && t.t == 4),
    -- DEC B to zero
    after1 { loaded [0x05] with cpu.b := 0x01, cpu.f := Flags.ofByte 0x10 }
      (fun t => t.cpu.f.toByte == 0xD0 && t.cpu.b == 0x00 && t.cpu.c == 0x13 && t.cpu.pc == 0xC001 && t.t == 4),
    -- DEC L wrap
    after1 { loaded [0x2D] with cpu.l := 0x00, cpu.f := Flags.ofByte 0x00 }
      (fun t => t.cpu.f.toByte == 0x60 && t.cpu.h == 0x01 && t.cpu.l == 0xFF && t.cpu.pc == 0xC001 && t.t == 4),
    -- DAA after add
    after1 { loaded [0x27] with cpu.a := 0x7D, cpu.f := Flags.ofByte 0x00 }
      (fun t => t.cpu.a == 0x83 && t.cpu.f.toByte == 0x00 && t.cpu.pc == 0xC001 && t.t == 4),
    -- DAA after add, carry out
    after1 { loaded [0x27] with cpu.a := 0x9A, cpu.f := Flags.ofByte 0x00 }
      (fun t => t.cpu.a == 0x00 && t.cpu.f.toByte == 0x90 && t.cpu.pc == 0xC001 && t.t == 4),
    -- CPL
    after1 { loaded [0x2F] with cpu.a := 0x35, cpu.f := Flags.ofByte 0x90 }
      (fun t => t.cpu.a == 0xCA && t.cpu.f.toByte == 0xF0 && t.cpu.pc == 0xC001 && t.t == 4),
    -- SCF
    after1 { loaded [0x37] with cpu.f := Flags.ofByte 0xE0 }
      (fun t => t.cpu.f.toByte == 0x90 && t.cpu.pc == 0xC001 && t.t == 4)].all id = true := by decide +kernel

theorem test_vectors_byte_arithmetic_3 : [
    -- CCF
    after1 { loaded [0x3F] with cpu.f := Flags.ofByte 0xF0 }
      (fun t => t.cpu.f.toByte == 0x80 && t.cpu.pc == 0xC001 && t.t == 4),
    -- CCF
    after1 { loaded [0x3F] with cpu.f := Flags.ofByte 0x00 }
      (fun t => t.cpu.f.toByte == 0x10 && t.cpu.pc == 0xC001 && t.t == 4)].all id = true := by decide +kernel

theorem test_vectors_word_arithmetic : [
    -- ADD HL,BC
    after1 { loaded [0x09] with cpu.h := 0x8A, cpu.l := 0x23, cpu.b := 0x06, cpu.c := 0x05, cpu.f := Flags.ofByte 0x80 }
      (fun t => t.cpu.f.toByte == 0xA0 && t.cpu.h == 0x90 && t.cpu.l == 0x28 && t.cpu.pc == 0xC001 && t.t == 8),
    -- ADD HL,HL
    after1 { loaded [0x29] with cpu.h := 0x8A, cpu.l := 0x23, cpu.f := Flags.ofByte 0x00 }
      (fun t => t.cpu.f.toByte == 0x30 && t.cpu.h == 0x14 && t.cpu.l == 0x46 && t.cpu.pc == 0xC001 && t.t == 8),
    -- INC DE wrap
    after1 { loaded [0x13] with cpu.d := 0xFF, cpu.e := 0xFF, cpu.f := Flags.ofByte 0xF0 }
      (fun t => t.cpu.d == 0x00 && t.cpu.e == 0x00 && t.cpu.f.toByte == 0xF0 && t.cpu.pc == 0xC001 && t.t == 8),
    -- INC SP
    after1 { loaded [0x33] with cpu.sp := 0xFFFF }
      (fun t => t.cpu.f.toByte == 0xB0 && t.cpu.sp == 0x0000 && t.cpu.pc == 0xC001 && t.t == 8),
    -- DEC BC wrap
    after1 { loaded [0x0B] with cpu.b := 0x00, cpu.c := 0x00, cpu.f := Flags.ofByte 0x00 }
      (fun t => t.cpu.b == 0xFF && t.cpu.c == 0xFF && t.cpu.f.toByte == 0x00 && t.cpu.pc == 0xC001 && t.t == 8),
    -- DEC HL
    after1 { loaded [0x2B] with cpu.h := 0x10, cpu.l := 0x00 }
      (fun t => t.cpu.h == 0x0F && t.cpu.l == 0xFF && t.cpu.f.toByte == 0xB0 && t.cpu.pc == 0xC001 && t.t == 8)].all id = true := by decide +kernel

theorem test_vectors_rotates_shifts_bits_1 : [
    -- RLCA
    after1 { loaded [0x07] with cpu.a := 0x85, cpu.f := Flags.ofByte 0x80 }
      (fun t => t.cpu.a == 0x0B && t.cpu.f.toByte == 0x10 && t.cpu.pc == 0xC001 && t.t == 4),
    -- RRCA
    after1 { loaded [0x0F] with cpu.a := 0x01, cpu.f := Flags.ofByte 0x00 }
      (fun t => t.cpu.a == 0x80 && t.cpu.f.toByte == 0x10 && t.cpu.pc == 0xC001 && t.t == 4),
    -- RLA
    after1 { loaded [0x17] with cpu.a := 0x95, cpu.f := Flags.ofByte 0x10 }
      (fun t => t.cpu.a == 0x2B && t.cpu.f.toByte == 0x10 && t.cpu.pc == 0xC001 && t.t == 4),
    -- RRA
    after1 { loaded [0x1F] with cpu.a := 0x81, cpu.f := Flags.ofByte 0x00 }
      (fun t => t.cpu.a == 0x40 && t.cpu.f.toByte == 0x10 && t.cpu.pc == 0xC001 && t.t == 4),
    -- RLCA zero result keeps Z=0
    after1 { loaded [0x07] with cpu.a := 0x00, cpu.f := Flags.ofByte 0xF0 }
      (fun t => t.cpu.f.toByte == 0x00 && t.cpu.pc == 0xC001 && t.t == 4),
    -- RLC B
    after1 { loaded [0xCB, 0x00] with cpu.b := 0x85, cpu.f := Flags.ofByte 0x00 }
      (fun t => t.cpu.f.toByte == 0x10 && t.cpu.b == 0x0B && t.cpu.c == 0x13 && t.cpu.pc == 0xC002 && t.t == 8),
    -- RLC (HL) zero
    after1 (State.at { loaded [0xCB, 0x06] with cpu.h := 0xC1, cpu.l := 0x00, cpu.f := Flags.ofByte 0x10 } 0xC100 0x00)
      (fun t => t.cpu.f.toByte == 0x80 && t.cpu.pc == 0xC002 && t.busRead 0xC100 == 0x00 && t.t == 16),
    -- RRC C
    after1 { loaded [0xCB, 0x09] with cpu.c := 0x01, cpu.f := Flags.ofByte 0x00 }
      (fun t => t.cpu.f.toByte == 0x10 && t.cpu.b == 0x00 && t.cpu.c == 0x80 && t.cpu.pc == 0xC002 && t.t == 8),
    -- RL L
    after1 { loaded [0xCB, 0x15] with cpu.l := 0x80, cpu.f := Flags.ofByte 0x00 }
      (fun t => t.cpu.f.toByte == 0x90 && t.cpu.h == 0x01 && t.cpu.l == 0x00 && t.cpu.pc == 0xC002 && t.t == 8),
    -- RR A
    after1 { loaded [0xCB, 0x1F] with cpu.a := 0x01, cpu.f := Flags.ofByte 0x00 }
      (fun t => t.cpu.a == 0x00 && t.cpu.f.toByte == 0x90 && t.cpu.pc == 0xC002 && t.t == 8),
    -- RR (HL)
    after1 (State.at { loaded [0xCB, 0x1E] with cpu.h := 0xC1, cpu.l := 0x00, cpu.f := Flags.ofByte 0x10 } 0xC100 0x8A)
      (fun t => t.cpu.f.toByte == 0x00 && t.cpu.pc == 0xC002 && t.busRead 0xC100 == 0xC5 && t.t == 16),
    -- SLA D
    after1 { loaded [0xCB, 0x22] with cpu.d := 0x80, cpu.f := Flags.ofByte 0x00 }
      (fun t => t.cpu.f.toByte == 0x90 && t.cpu.d == 0x00 && t.cpu.e == 0xD8 && t.cpu.pc == 0xC002 && t.t == 8)].all id = true := by decide +kernel

theorem test_vectors_rotates_shifts_bits_2 : [
    -- SLA (HL)
    after1 (State.at { loaded [0xCB, 0x26] with cpu.h := 0xC1, cpu.l := 0x00, cpu.f := Flags.ofByte 0x00 } 0xC100 0xFF)
      (fun t => t.cpu.f.toByte == 0x10 && t.cpu.pc == 0xC002 && t.busRead 0xC100 == 0xFE && t.t == 16),
    -- SRA A
    after1 { loaded [0xCB, 0x2F] with cpu.a := 0x8A, cpu.f := Flags.ofByte 0x00 }
      (fun t => t.cpu.a == 0xC5 && t.cpu.f.toByte == 0x00 && t.cpu.pc == 0xC002 && t.t == 8),
    -- SRA (HL)
    after1 (State.at { loaded [0xCB, 0x2E] with cpu.h := 0xC1, cpu.l := 0x00, cpu.f := Flags.ofByte 0x00 } 0xC100 0x01)
      (fun t => t.cpu.f.toByte == 0x90 && t.cpu.pc == 0xC002 && t.busRead 0xC100 == 0x00 && t.t == 16),
    -- SWAP A
    after1 { loaded [0xCB, 0x37] with cpu.a := 0xF1, cpu.f := Flags.ofByte 0xF0 }
      (fun t => t.cpu.a == 0x1F && t.cpu.f.toByte == 0x00 && t.cpu.pc == 0xC002 && t.t == 8),
    -- SWAP (HL) zero
    after1 (State.at { loaded [0xCB, 0x36] with cpu.h := 0xC1, cpu.l := 0x00, cpu.f := Flags.ofByte 0x10 } 0xC100 0x00)
      (fun t => t.cpu.f.toByte == 0x80 && t.cpu.pc == 0xC002 && t.busRead 0xC100 == 0x00 && t.t == 16),
    -- SRL A
    after1 { loaded [0xCB, 0x3F] with cpu.a := 0x01, cpu.f := Flags.ofByte 0x00 }
      (fun t => t.cpu.a == 0x00 && t.cpu.f.toByte == 0x90 && t.cpu.pc == 0xC002 && t.t == 8),
    -- SRL (HL)
    after1 (State.at { loaded [0xCB, 0x3E] with cpu.h := 0xC1, cpu.l := 0x00, cpu.f := Flags.ofByte 0x00 } 0xC100 0xFF)
      (fun t => t.cpu.f.toByte == 0x10 && t.cpu.pc == 0xC002 && t.busRead 0xC100 == 0x7F && t.t == 16),
    -- BIT 7,A set
    after1 { loaded [0xCB, 0x7F] with cpu.a := 0x80, cpu.f := Flags.ofByte 0x10 }
      (fun t => t.cpu.f.toByte == 0x30 && t.cpu.pc == 0xC002 && t.t == 8),
    -- BIT 4,L clear
    after1 { loaded [0xCB, 0x65] with cpu.l := 0xEF, cpu.f := Flags.ofByte 0x00 }
      (fun t => t.cpu.f.toByte == 0xA0 && t.cpu.pc == 0xC002 && t.t == 8),
    -- RES 7,A
    after1 { loaded [0xCB, 0xBF] with cpu.a := 0x80, cpu.f := Flags.ofByte 0xF0 }
      (fun t => t.cpu.a == 0x00 && t.cpu.f.toByte == 0xF0 && t.cpu.pc == 0xC002 && t.t == 8),
    -- RES 3,(HL)
    after1 (State.at { loaded [0xCB, 0x9E] with cpu.h := 0xC1, cpu.l := 0x00 } 0xC100 0xFF)
      (fun t => t.cpu.f.toByte == 0xB0 && t.cpu.pc == 0xC002 && t.busRead 0xC100 == 0xF7 && t.t == 16),
    -- SET 3,A
    after1 { loaded [0xCB, 0xDF] with cpu.a := 0x80, cpu.f := Flags.ofByte 0x00 }
      (fun t => t.cpu.a == 0x88 && t.cpu.f.toByte == 0x00 && t.cpu.pc == 0xC002 && t.t == 8)].all id = true := by decide +kernel

theorem test_vectors_rotates_shifts_bits_3 : [
    -- SET 7,(HL)
    after1 (State.at { loaded [0xCB, 0xFE] with cpu.h := 0xC1, cpu.l := 0x00 } 0xC100 0x00)
      (fun t => t.cpu.f.toByte == 0xB0 && t.cpu.pc == 0xC002 && t.busRead 0xC100 == 0x80 && t.t == 16)].all id = true := by decide +kernel

theorem test_vectors_control_flow : [
    -- JP 0x8000
    after1 (loaded [0xC3, 0x00, 0x80])
      (fun t => t.cpu.pc == 0x8000 && t.t == 16),
    -- JP NZ,0x8000 not taken
    after1 { loaded [0xC2, 0x00, 0x80] with cpu.f := Flags.ofByte 0x80 }
      (fun t => t.cpu.f.toByte == 0x80 && t.cpu.pc == 0xC003 && t.t == 12),
    -- JR +5
    after1 (loaded [0x18, 0x05])
      (fun t => t.cpu.pc == 0xC007 && t.t == 12),
    -- JR -2 (self)
    after1 (loaded [0x18, 0xFE])
      (fun t => t.cpu.pc == 0xC000 && t.t == 12),
    -- CALL 0x1234
    after1 { loaded [0xCD, 0x34, 0x12] with cpu.sp := 0xD000 }
      (fun t => t.cpu.sp == 0xCFFE && t.cpu.pc == 0x1234 && t.busRead 0xCFFF == 0xC0 && t.busRead 0xCFFE == 0x03 && t.t == 24),
    -- CALL NZ not taken
    after1 { loaded [0xC4, 0x34, 0x12] with cpu.f := Flags.ofByte 0x80, cpu.sp := 0xD000 }
      (fun t => t.cpu.f.toByte == 0x80 && t.cpu.pc == 0xC003 && t.t == 12),
    -- RET
    after1 (State.at (State.at { loaded [0xC9] with cpu.sp := 0xCFFE } 0xCFFE 0x03) 0xCFFF 0xC2)
      (fun t => t.cpu.sp == 0xD000 && t.cpu.pc == 0xC203 && t.t == 16),
    -- RET NC not taken
    after1 (State.at (State.at { loaded [0xD0] with cpu.f := Flags.ofByte 0x10, cpu.sp := 0xCFFE } 0xCFFE 0x03) 0xCFFF 0xC2)
      (fun t => t.cpu.f.toByte == 0x10 && t.cpu.pc == 0xC001 && t.t == 8),
    -- RETI
    after1 (State.at (State.at { loaded [0xD9] with cpu.sp := 0xCFFE } 0xCFFE 0x03) 0xCFFF 0xC2)
      (fun t => t.cpu.sp == 0xD000 && t.cpu.pc == 0xC203 && t.cpu.ime == true && t.t == 16),
    -- RST 0x28
    after1 { loaded [0xEF] with cpu.sp := 0xD000 }
      (fun t => t.cpu.sp == 0xCFFE && t.cpu.pc == 0x0028 && t.busRead 0xCFFF == 0xC0 && t.busRead 0xCFFE == 0x01 && t.t == 16),
    -- RST 0x00
    after1 { loaded [0xC7] with cpu.sp := 0xD000 }
      (fun t => t.cpu.sp == 0xCFFE && t.cpu.pc == 0x0000 && t.busRead 0xCFFF == 0xC0 && t.busRead 0xCFFE == 0x01 && t.t == 16)].all id = true := by decide +kernel

theorem test_vectors_cpu_control_and_interrupts : [
    -- NOP
    after1 (loaded [0x00])
      (fun t => t.cpu.pc == 0xC001 && t.t == 4),
    -- DI
    after1 { loaded [0xF3] with cpu.ime := true, cpu.imePending := true }
      (fun t => t.cpu.pc == 0xC001 && t.cpu.ime == false && t.cpu.imePending == false && t.t == 4),
    -- EI
    after1 (loaded [0xFB])
      (fun t => t.cpu.pc == 0xC001 && t.cpu.ime == false && t.cpu.imePending == true && t.t == 4),
    -- HALT, nothing pending
    after1 (loaded [0x76])
      (fun t => t.cpu.pc == 0xC001 && t.cpu.halted == true && t.t == 4),
    -- service, two pending
    after1 { loaded [0x00] with cpu.ime := true, irq.flags := 0x1F, irq.enable := 0x1A, cpu.sp := 0xD000 }
      (fun t => t.cpu.sp == 0xCFFE && t.cpu.pc == 0x0048 && t.cpu.ime == false && t.irq.flags == 0x1D && t.busRead 0xCFFF == 0xC0 && t.busRead 0xCFFE == 0x00 && t.t == 20),
    -- pending but not enabled
    after1 { loaded [0x00] with cpu.ime := true, irq.flags := 0x01, irq.enable := 0x1E, cpu.sp := 0xD000 }
      (fun t => t.cpu.pc == 0xC001 && t.cpu.ime == true && t.irq.flags == 0x01 && t.t == 4),
    -- illegal 0xD3
    after1 (loaded [0xD3])
      (fun t => t.cpu.pc == 0xC000 && t.cpu.locked == true && t.t == 4)].all id = true := by decide +kernel

/-! ## Placing an instruction -/

/-- After reset the next step runs the placed instruction: `pc` is in ROM, and the placed `LD A,d8` loads its zero operand
byte, `JP a16` goes to its zero address. -/
theorem test_withFetchWord_runs_it : [
    after1 (State.reset.withFetchWord 8 0x3E) (fun t => t.cpu.a == 0x00 && t.cpu.pc == 0x0102),
    after1 (State.reset.withFetchWord 8 0xC3) (fun t => t.cpu.pc == 0x0000),
    after1 (State.reset.withFetchWord 16 0x37CB) (fun t => t.cpu.a == 0x10),
    after1 (State.reset.withFetchWord 8 0xDD) (fun t => t.cpu.locked && t.cpu.pc == 0x0100),
    after1 ({ State.reset with cpu.pc := 0xFFFF, cpu.halted := true }.withFetchWord 8 0x3C)
      (fun t => t.cpu.a == 0x02 && t.cpu.pc == 0xC001)].all id = true := by decide +kernel

/-! ## Every statement's hypotheses are met

One concrete state, or one for each clause, at the ends of its range. -/

/-- The state the witnesses start from: `NOP`s at 0xC000, the registers chosen so that every kind of store lands in an
ordinary cell: HL at VRAM's first byte, BC at OAM's last, DE at work RAM's last, `0xFF00 + C` in high RAM. -/
def w0 : State :=
  { loaded [0x00] with cpu.h := 0x80, cpu.l := 0x00, cpu.b := 0xFE, cpu.c := 0x9F, cpu.d := 0xDF, cpu.e := 0xFF, cpu.sp := 0xD000 }

theorem test_w0_ppu : w0.ppu.Inv :=
  ⟨by decide, by decide, by decide, ⟨by decide, by decide⟩, by decide, fun _ => rfl, fun h => absurd h (by decide)⟩

theorem test_w0_apu : w0.apu.Inv := ⟨by decide, by decide, by decide, by decide, by decide, by decide, by decide, by decide, by decide⟩

/-- The premise of `StepKeepsInvariant`, `HostKeepsInvariant`, `MemoryStores`, `Pushes`, `PushThenPop`. -/
theorem test_w0_inv : w0.Inv :=
  ⟨⟨by decide, fun h => absurd h (by decide), fun h => absurd h (by decide)⟩, rfl, test_w0_ppu,
    ⟨by decide, by decide, fun h => absurd h (by decide)⟩, test_w0_apu, ⟨by decide, by decide⟩⟩

theorem test_met_StepKeepsInvariant : w0.Inv ∧ ∃ t, step w0 = .next t := ⟨test_w0_inv, _, rfl⟩

/-- An image that fills the buffer's ends, of a machine with one bank of external RAM. -/
theorem test_met_HostKeepsInvariant :
    w0.Inv ∧ Cells.wf [(0, 0x01#8), (0x1FFF, 0xFF#8)] = true
      ∧ Cells.below ({ w0 with cfg.ramBanks := 1 }.cfg.ramBanks * 0x2000) [(0, 0x01#8), (0x1FFF, 0xFF#8)] = true :=
  ⟨test_w0_inv, by decide, by decide⟩

theorem test_met_DecodeAfterEncode : Instr.nop.wf = true ∧ (Instr.jp_a16 0xFFFF).wf = true ∧ (Instr.jr_e8 0x80).wf = true
    ∧ Instr.set_7_atHL.wf = true := ⟨rfl, rfl, rfl, rfl⟩

theorem test_met_EveryWordIsOneInstruction : (0xD3 : Byte) ∈ illegalOpcodes ∧ (0xFD : Byte) ∈ illegalOpcodes
    ∧ (0xCB : Byte) ∉ illegalOpcodes ∧ isIllegal (decodeBytes 0xFD 0 0) = true ∧ isIllegal (decodeBytes 0xCB 0xD3 0) = false := by
  decide

/-- A cartridge of kind MBC1 with RAM, two ROM banks and one RAM bank. -/
def mbc1Config : Sys2Proof.Config := { Config.blank with rom := [(0x147, 0x03), (0x148, 0x00), (0x149, 0x02)] }

/-- The premise of `CpuResetValues`, `RegisterResetReads` and `InvariantAtReset`, for two cartridges. -/
theorem test_met_resets : (∃ s, powerOn Config.blank = .next s) ∧ ∃ s, powerOn mbc1Config = .next s := ⟨⟨_, rfl⟩, _, rfl⟩

/-- Both sides of `ConfigurationFaults`: the headers above, and one of kind 0x04, one of another length. -/
theorem test_met_ConfigurationFaults :
    powerOn { Config.blank with rom := [(0x147, 0x04)] } = .fault (.badCartridge 0x0147 0x04)
      ∧ powerOn { Config.blank with romLength := 0x10000 } = .fault (.badCartridge 0x0148 0x00)
      ∧ powerOn Config.blank = .next State.reset := ⟨rfl, rfl, rfl⟩

theorem test_met_MemoryStores :
    w0.Inv ∧ ([w0.hl, w0.pair .bc, w0.pair .de, 0xFDFF#16, 0xFF00#16 + (w0.reg .c).setWidth 16, 0xFFFE#16].all fun a =>
      w0.hasCell a && decide (0x8000 ≤ a.toNat) && !(w0.advance 4).blocked a) = true := ⟨test_w0_inv, by decide +kernel⟩

/-- `w0` with an MBC3 cartridge of four RAM banks, open. -/
def wMbc3 : State :=
  { w0 with cfg.cartKind := .mbc3, cfg.ramBanks := 4, cart.ramEnable := true, cart.mbc3Sel := 3 }

theorem test_met_StoreChangesOneCell :
    w0.MemInv ∧ ([0x8000#16, 0x9FFF#16, 0xC000#16, 0xDFFF#16, 0xE000#16, 0xFDFF#16, 0xFE00#16, 0xFE9F#16, 0xFF80#16,
        0xFFFE#16].all fun a => w0.hasCell a && decide (0x8000 ≤ a.toNat)) = true
      ∧ wMbc3.MemInv ∧ ([0xA000#16, 0xBFFF#16].all fun a => wMbc3.hasCell a && decide (0x8000 ≤ a.toNat)) = true
      ∧ regionOf 0xE000 = regionOf 0xC000 ∧ regionOf 0xFDFF = regionOf 0xDDFF ∧ regionOf 0xDE00 ≠ regionOf 0xFE00 := by
  refine ⟨test_w0_inv.mem, by decide, test_w0_inv.mem, by decide, by decide, by decide, by decide⟩

theorem test_met_TimeChangesOnlyDevices :
    ([0xFEFF#16, 0xFF80#16].all fun a => decide (¬(0xFF00 ≤ a.toNat ∧ a.toNat < 0xFF80))) = true ∧ inOam 0xFE00 ∧ inOam 0xFE9F ∧ ¬inOam 0xFEA0
      ∧ w0.dma.active = false := ⟨by decide, ⟨by decide, by decide⟩, ⟨by decide, by decide⟩, fun h => absurd h.2 (by decide), rfl⟩

/-- The premises of `Pushes` and `PushThenPop`, with the stack in work RAM and across the ends of high RAM and VRAM. -/
theorem test_met_pushes :
    w0.Inv ∧ w0.dma.active = false ∧ ([w0.cpu.sp, 0xFFFF#16, 0xFF82#16, 0x8002#16, 0xA000#16, 0xE001#16].all fun sp =>
      w0.hasCell (sp - 1) && decide (0x8000 ≤ (sp - 1).toNat) && w0.hasCell (sp - 2) && decide (0x8000 ≤ (sp - 2).toNat)) = true :=
  ⟨test_w0_inv, rfl, by decide +kernel⟩

theorem test_met_AccumulatorAdjustments : { w0 with cpu.a := 0x99 }.cpu.a = packedDecimal 99 ∧ { w0 with cpu.a := 0x00 }.cpu.a = packedDecimal 0 := by
  decide

theorem test_met_CpuControl : w0.cfg.stopMode = .nop2 ∧ { w0 with cfg.stopMode := .refuse }.cfg.stopMode = .refuse := ⟨rfl, rfl⟩

theorem test_met_IllegalOpcodeEntry :
    ([loaded [0xDD], { loaded [0xFC] with cpu.haltBug := true }, { loaded [0xD3] with cpu.halted := true, irq.enable := 1 }].all
      fun s => !s.cpu.locked && !s.cpu.refused && s.wake.toService == none && !s.wake.cpu.halted && !s.cpu.imePending
        && illegalOpcodes.contains ((s.advance 4).cpuRead s.cpu.pc)) = true := by decide +kernel

theorem test_met_StepExistsAndTakesTime :
    { w0 with cpu.locked := true }.cpu.locked = true ∧ { w0 with cpu.refused := true }.cpu.locked = false
      ∧ { w0 with cpu.refused := true }.cpu.refused = true ∧ w0.live := ⟨rfl, rfl, rfl, rfl, rfl⟩

/-- For each source, all five requested and this one the lowest that is enabled. -/
def wanted (i : Source) : State := { w0 with cpu.ime := true, irq := ⟨0b11111, 0x1F#8 <<< i.index⟩ }

theorem test_met_InterruptService (i : Source) :
    (wanted i).live ∧ (wanted i).cpu.ime = true ∧ (wanted i).irq.flags.getLsbD i.index = true
      ∧ (wanted i).irq.enable.getLsbD i.index = true
      ∧ ∀ k, k < i.index → (wanted i).irq.flags.getLsbD k = false ∨ (wanted i).irq.enable.getLsbD k = false := by
  cases i <;> exact ⟨⟨rfl, rfl⟩, rfl, rfl, rfl, by decide⟩

theorem test_met_HaltedStep :
    let s := { w0 with cpu.halted := true }
    let t := { w0 with cpu.halted := true, irq := ⟨0b10000, 0xFF⟩ }
    (s.cpu.halted = true ∧ s.live ∧ s.irq.flags &&& s.irq.enable.setWidth 5 = 0)
      ∧ t.cpu.halted = true ∧ t.irq.flags &&& t.irq.enable.setWidth 5 ≠ 0 := ⟨⟨rfl, ⟨rfl, rfl⟩, by decide⟩, rfl, by decide⟩

/-- The three bytes that a step reads at most, with the second at `p`. -/
def threeBytes (s : State) (p : Word) : List Byte :=
  [(s.advance 4).cpuRead s.cpu.pc, (s.advance 8).cpuRead p, (s.advance 12).cpuRead (p + 1)]

/-- The premises of `StepRunsDecoded` but the decoding. -/
def readyAt (s : State) : Prop :=
  s.live ∧ s.cpu.halted = false ∧ s.cpu.haltBug = false ∧ (s.cpu.ime = false ∨ s.irq.flags &&& s.irq.enable.setWidth 5 = 0)

theorem test_threeBytes :
    threeBytes (loaded [0xC3, 0x34, 0x12]) 0xC001 = [0xC3, 0x34, 0x12] ∧ threeBytes (loaded [0xCB, 0x37]) 0xC001 = [0xCB, 0x37, 0]
      ∧ threeBytes { loaded [0x3C] with cpu.ime := true } 0xC001 = [0x3C, 0, 0]
      ∧ threeBytes { loaded [0x3E, 0x14] with cpu.haltBug := true } 0xC000 = [0x3E, 0x3E, 0x14] := by decide +kernel

/-- An instruction of each length, one with IME set and nothing enabled. -/
theorem test_met_StepRunsDecoded :
    (readyAt (loaded [0xC3, 0x34, 0x12]) ∧ decode (threeBytes (loaded [0xC3, 0x34, 0x12]) 0xC001) = .ok (.jp_a16 0x1234, []))
      ∧ (readyAt (loaded [0xCB, 0x37]) ∧ decode (threeBytes (loaded [0xCB, 0x37]) 0xC001) = .ok (.swap_a, [0]))
      ∧ readyAt { loaded [0x3C] with cpu.ime := true }
      ∧ decode (threeBytes { loaded [0x3C] with cpu.ime := true } 0xC001) = .ok (.inc_a, [0, 0]) := by
  rw [test_threeBytes.1, test_threeBytes.2.1, test_threeBytes.2.2.1]
  exact ⟨⟨⟨⟨rfl, rfl⟩, rfl, rfl, .inl rfl⟩, rfl⟩, ⟨⟨⟨rfl, rfl⟩, rfl, rfl, .inl rfl⟩, rfl⟩, ⟨⟨rfl, rfl⟩, rfl, rfl, .inr rfl⟩, rfl⟩

theorem test_met_HaltBugFetch :
    let s := { loaded [0x3E, 0x14] with cpu.haltBug := true }
    s.live ∧ s.cpu.halted = false ∧ s.cpu.haltBug = true ∧ s.cpu.ime = false ∧ s.cpu.imePending = false
      ∧ decode (threeBytes s 0xC000) = .ok (.ld_a_d8 0x3E, [0x14]) := by
  intro s
  rw [test_threeBytes.2.2.2]
  exact ⟨⟨rfl, rfl⟩, rfl, rfl, rfl, rfl, rfl⟩

/-- EI before DI, before NOP and before HALT: every continuation; and a wake with the latch set. -/
theorem test_met_EiDelay :
    ([(loaded [0xFB, 0xF3], Instr.di), (loaded [0xFB, 0x00], Instr.nop), (loaded [0xFB, 0x76], Instr.halt)].all fun p =>
      !p.1.cpu.locked && !p.1.cpu.refused && p.1.wake.toService == none && !p.1.wake.cpu.halted
        && p.1.wake.fetch.1 == .ei && !p.1.cpu.ime && !p.1.cpu.imePending
        && after1 p.1 (fun t => t.wake.fetch.1 == p.2 && after1 t (fun u => !u.cpu.locked && !u.cpu.refused
          && u.cpu.halted == (p.2 == .halt)))) = true
      ∧ (let w := { loaded [0x00] with cpu.halted := true, cpu.imePending := true, irq := ⟨4, 4⟩ }
        (!w.cpu.locked && !w.cpu.refused && w.wake.toService == none && !w.wake.cpu.halted && !w.cpu.ime && w.cpu.imePending
          && after1 w (fun u => !u.cpu.locked && !u.cpu.refused && !u.cpu.halted)) = true) := by
  decide +kernel

/-- EI; HALT with nothing pending halts with the latch set, and the first instruction after the wake sets IME (60_exceptions.md
R346 (e), decision D19); with IME = 1 the HALT itself ends it (46_cpu_control.md R324 (d)). -/
theorem test_ei_then_halt :
    after1 { loaded [0x76, 0x3C] with cpu.imePending := true } (fun t => t.cpu.halted && t.cpu.imePending && !t.cpu.ime
        && after1 { t with irq := ⟨4, 4⟩ } (fun u => u.cpu.a == t.cpu.a + 1 && u.cpu.ime && !u.cpu.imePending)) = true
      ∧ after1 { loaded [0x76] with cpu.imePending := true, cpu.ime := true } (fun t =>
        t.cpu.halted && !t.cpu.imePending && t.cpu.ime) = true := by decide +kernel

/-- Each of the six bits does change somewhere. -/
theorem test_met_RunBitWriters :
    (∃ t, exec .reti w0 = .next t ∧ t.cpu.ime ≠ w0.cpu.ime) ∧ (∃ t, exec .ei w0 = .next t ∧ t.cpu.imePending ≠ w0.cpu.imePending)
      ∧ (∃ t, exec .halt w0 = .next t ∧ t.cpu.halted ≠ w0.cpu.halted)
      ∧ (∃ t, exec .halt { w0 with irq.enable := 1 } = .next t ∧ t.cpu.haltBug ≠ w0.cpu.haltBug)
      ∧ (∃ t, exec .illegal_d3 w0 = .next t ∧ t.cpu.locked ≠ w0.cpu.locked)
      ∧ (∃ t, exec (.stop 0) { w0 with cfg.stopMode := .refuse } = .next t ∧ t.cpu.refused ≠ w0.cpu.refused) :=
  ⟨⟨_, rfl, by decide⟩, ⟨_, rfl, by decide⟩, ⟨_, rfl, by decide⟩, ⟨_, rfl, by decide⟩, ⟨_, rfl, by decide⟩, _, rfl, by decide⟩

theorem test_met_BusMap :
    w0.MemInv ∧ ([(0x8000, 0x8000, 0x9FFF), (0x9FFF, 0x8000, 0x9FFF), (0xC000, 0xC000, 0xDFFF), (0xDFFF, 0xC000, 0xDFFF),
        (0xFE00, 0xFE00, 0xFE9F), (0xFE9F, 0xFE00, 0xFE9F), (0xFF80, 0xFF80, 0xFFFE), (0xFFFE, 0xFF80, 0xFFFE)].all
        fun (p : Word × Nat × Nat) => decide (p.2.1 ≤ p.1.toNat ∧ p.1.toNat ≤ p.2.2)) = true
      ∧ ([0xE000#16, 0xFDFF#16].all fun a => decide (0xE000 ≤ a.toNat ∧ a.toNat < 0xFE00)) = true
      ∧ ([0xFEA0#16, 0xFEFF#16].all fun a => decide (0xFEA0 ≤ a.toNat ∧ a.toNat < 0xFF00)) = true
      ∧ ([0xFF4C#16, 0xFF7F#16].all fun a => decide (0xFF4C ≤ a.toNat ∧ a.toNat ≤ 0xFF7F)) = true
      ∧ ([0x0000#16, 0x7FFF#16].all fun a => decide (a.toNat < 0x8000)) = true :=
  ⟨test_w0_inv.mem, by decide, by decide, by decide, by decide, by decide⟩

theorem test_met_DmaShutsOutCpu :
    let s := { w0 with dma := ⟨true, 0xC0, 160, 0⟩ }
    ([0xFF7F#16, 0xFFFF#16, 0x0000#16].all fun a =>
        decide (s.dma.active = true ∧ ¬(0xFF80 ≤ a.toNat ∧ a.toNat ≤ 0xFFFE))) = true
      ∧ ([0xFF80#16, 0xFFFE#16].all fun a =>
        decide (¬(s.dma.active = true ∧ ¬(0xFF80 ≤ a.toNat ∧ a.toNat ≤ 0xFFFE)))) = true := by decide

/-- `w0` in a transfer from page `v`, with `n` bytes to go and `k` ticks toward the next. -/
def wDma (v : Byte) (n k : Nat) : State := { w0 with dma := ⟨true, v, n, k⟩ }

theorem test_met_DmaCopiesPage : w0.dma.active = false ∧ (wDma 0xFE 160 2).dma.sub ≠ 3
    ∧ ((wDma 0xFF 1 3).MemInv ∧ (wDma 0xFF 1 3).dma.sub = 3 ∧ 1 ≤ (wDma 0xFF 1 3).dma.remaining) ∧ w0.MemInv ∧ (0xFD : Byte).toNat < 0xFE ∧ (0x00 : Byte).toNat < 0xFE
    ∧ (∃ k i : Nat, i < 160 ∧ 4 * (i + 1) ≤ k ∧ k ≤ 640 ∧ i = 159) :=
  ⟨rfl, by decide, ⟨test_w0_inv.mem, rfl, by decide⟩, test_w0_inv.mem, by decide, by decide, 640, 159, by decide⟩

theorem test_met_SerialTransfer : (0x81 : Byte).getLsbD 7 = true ∧ (0x81 : Byte).getLsbD 0 = true
    ∧ ¬((0x80 : Byte).getLsbD 7 = true ∧ (0x80 : Byte).getLsbD 0 = true) := by decide

theorem test_met_PpuPosition :
    (w0.ppu.ly < 154 ∧ w0.ppu.dot < 456 ∧ w0.ppu.lcdOn = true)
      ∧ (let s := { w0 with ppu := { w0.ppu with ly := 143, dot := 455, mode := .hblank } }
        s.ppu.ly < 154 ∧ s.ppu.dot < 456 ∧ s.ppu.lcdOn = true ∧ s.ppuTick.ppu.position = 65664)
      ∧ (let s := { w0 with ppu := { w0.ppu with ly := 153, dot := 455, lcdc := 0x11 } }
        s.ppu.ly < 154 ∧ s.ppu.dot < 456 ∧ s.ppu.lcdOn = false) := by decide +kernel

/-- `w0` in PixelTransfer of line 143, at its first dot, at the dot of its last pixel, and with the LCD off. -/
def wDot (dot : Nat) : State := { w0 with ppu := { w0.ppu with ly := 143, dot := dot, mode := .pixelTransfer } }

theorem test_wDot_80 : (wDot 80).ppu.Inv :=
  ⟨by decide, by decide, by decide, ⟨by decide, by decide⟩, by decide, fun _ => by decide, fun h => absurd h (by decide)⟩

theorem test_wDot_239 : (wDot 239).ppu.Inv :=
  ⟨by decide, by decide, by decide, ⟨by decide, by decide⟩, by decide, fun _ => by decide, fun h => absurd h (by decide)⟩

theorem test_met_PpuTick :
    ((wDot 80).ppu.Inv ∧ (wDot 80).ppu.lcdOn = true ∧ (wDot 80).ppu.mode = .pixelTransfer ∧ (wDot 80).dma.active = false)
      ∧ ((wDot 239).ppu.Inv ∧ (wDot 239).ppu.dot = 80 + 159)
      ∧ (let p := { w0.ppu with lcdc := 0x11, mode := .hblank }
        p.Inv ∧ p.lcdOn = false) :=
  ⟨⟨test_wDot_80, by decide, rfl, rfl⟩, ⟨test_wDot_239, rfl⟩,
    ⟨by decide, by decide, by decide, ⟨by decide, by decide⟩, by decide, fun h => absurd h (by decide), fun _ => by decide⟩, by decide⟩

/-- The four changes of LCDC bit 7 in `LcdSwitch`, and the premise of `StatLine`. -/
theorem test_met_LcdSwitch :
    let off := { w0 with ppu := { w0.ppu with lcdc := 0x11, mode := .hblank } }
    w0.ppu.lcdOn = true ∧ w0.ppu.lcdc.getLsbD 7 = true ∧ (0x7F : Byte).getLsbD 7 = false ∧ off.ppu.lcdc.getLsbD 7 = false
      ∧ (0x80 : Byte).getLsbD 7 = true := by decide

/-- Eleven entries on line 0: the first ten are taken, the eleventh covers the line and is left out. -/
def elevenSprites : Memory := (List.range 11).map fun n => (4 * n, 0x10)

theorem test_met_SpriteSelection :
    Ppu.reset.selectSprites elevenSprites = [0, 1, 2, 3, 4, 5, 6, 7, 8, 9] ∧ Ppu.reset.covers elevenSprites 10 = true := by
  decide +kernel

/-- Both clauses of `PixelPriority`: sprites off; and entry 0 opaque at the pixel, first in front, then behind the background. -/
theorem test_met_PixelPriority :
    let vram : Memory := [(0, 0x80), (1, 0x80)]
    let oam : Memory := [(0, 0x10), (1, 0x08), (5, 0x08)]
    let p := { Ppu.reset with lcdc := 0x93, lineSprites := [1, 0] }
    Ppu.reset.lcdc.getLsbD 1 = false ∧ p.lcdc.getLsbD 1 = true ∧ p.lineSprites = [1] ++ 0 :: []
      ∧ p.spriteIndex vram oam 1 0 0 = none ∧ p.spriteIndex vram oam 0 0 0 = some 3 := by decide +kernel

theorem test_met_ApuPowerAndMix : w0.apu.Inv ∧ w0.apu.power = true ∧ (0x7F : Byte).getLsbD 7 = false
    ∧ ({ w0 with apu.power := false }.apu.power = false) := ⟨test_w0_apu, by decide⟩

theorem test_met_ApuTriggers : w0.apu.power = true ∧ (0x80 : Byte).getLsbD 7 = true := by decide

/-- Each clause of `ApuRegisters`: the power bit on and off, written with each value, and wave RAM's two ends. -/
theorem test_met_ApuRegisters :
    (w0.apu.power = true ∧ (0x7F : Byte).getLsbD 7 = false ∧ (0x80 : Byte).getLsbD 7 = w0.apu.power)
      ∧ ({ w0 with apu.power := false }.apu.power = false ∧ (0x80 : Byte).getLsbD 7 = true)
      ∧ ([0xFF30#16, 0xFF3F#16].all fun a => decide (0xFF30 ≤ a.toNat ∧ a.toNat < 0xFF40)) = true ∧ w0.MemInv :=
  ⟨by decide, by decide, by decide, test_w0_inv.mem⟩

theorem test_met_FrameSequencer : ∀ k, k < 8 → { w0.apu with fsStep := k }.fsStep = k := fun _ _ => rfl

/-- A machine of each kind, and the first and last address of each port and window. -/
theorem test_met_BankMapping :
    2 ≤ w0.cfg.romBanks ∧ ([CartKind.none, .mbc1, .mbc3, .mbc5].all fun k => decide ({ w0 with cfg.cartKind := k }.cfg.cartKind = k)) = true
      ∧ ([(0x0000, 0x0000, 0x7FFF), (0x3FFF, 0x2000, 0x3FFF), (0x2FFF, 0x2000, 0x2FFF), (0x3000, 0x3000, 0x3FFF),
          (0x4000, 0x4000, 0x5FFF), (0x5FFF, 0x4000, 0x5FFF), (0x6000, 0x6000, 0x7FFF), (0x7FFF, 0x6000, 0x7FFF)].all
        fun (a, first, last) => decide (first ≤ (BitVec.ofNat 16 a).toNat ∧ (BitVec.ofNat 16 a).toNat ≤ last)) = true := by decide

theorem test_met_ExternalRamWindow :
    ([0xA000#16, 0xBFFF#16].all fun a => decide (0xA000 ≤ a.toNat ∧ a.toNat < 0xC000)) = true ∧ w0.MemInv
      ∧ ([0x0000#16, 0x1FFF#16].all fun b => decide (b.toNat < 0x2000)) = true
      ∧ ([0x6000#16, 0x7FFF#16].all fun b => decide (0x6000 ≤ b.toNat ∧ b.toNat < 0x8000)) = true
      ∧ ¬(w0.cart.ramEnable = true ∧ w0.cfg.ramBanks ≠ 0)
      ∧ ([CartKind.mbc1, .mbc3, .mbc5].all fun k =>
        let s := { wMbc3 with cfg.cartKind := k }
        decide (s.cart.ramEnable = true ∧ s.cfg.ramBanks ≠ 0 ∧ s.cart.mbc3Sel.toNat ≤ 3)) = true
      ∧ ([8#4, 12#4].all fun k =>
        let s := { wMbc3 with cart.mbc3Sel := k }
        decide (s.cfg.cartKind = .mbc3 ∧ 8 ≤ s.cart.mbc3Sel.toNat ∧ s.cart.mbc3Sel.toNat ≤ 12)) = true
      ∧ ([4#4, 7#4, 13#4, 15#4].all fun k =>
        let n := { wMbc3 with cart.mbc3Sel := k }.cart.mbc3Sel.toNat
        decide ((4 ≤ n ∧ n ≤ 7) ∨ 13 ≤ n)) = true :=
  ⟨by decide, test_w0_inv.mem, by decide, by decide, by decide, by decide, by decide, by decide⟩

end Sys2Proof.Tests
end

section
/-! PROOFS. Fetching: the bytes an instruction's length does not count are not looked at, and the machine once all its
bytes are read (30_encoding.md R120 to R122). -/

namespace Sys2Proof.Machine

open Sys2Proof

theorem instrLength_cases (op : Byte) : instrLength op = 1 ∨ instrLength op = 2 ∨ instrLength op = 3 := by
  unfold instrLength
  split
  · simp
  · split <;> simp

/-! ## Which bytes the decoder looks at -/

/-- The fields of an opcode of row `x = 0` that has no word operand. -/
theorem fields_x0_noWord : ∀ op : Byte, fieldX op = 0 → instrLength op ≠ 3 →
    (fieldZ op = 0 → fieldY op ≠ 1) ∧ (fieldZ op = 1 → fieldQ op = true) := by decide

/-- The fields of an opcode of row `x = 3` that has no word operand. -/
theorem fields_x3_noWord : ∀ op : Byte, fieldX op = 3 → instrLength op ≠ 3 →
    (fieldZ op = 2 → fieldY op = 4 ∨ fieldY op = 6) ∧ (fieldZ op = 3 → fieldY op ≠ 0)
      ∧ (fieldZ op = 4 → 4 ≤ fieldY op) ∧ (fieldZ op = 5 → fieldQ op = true → fieldP op ≠ 0) := by decide

/-- The fields of a one-byte opcode of row `x = 0`. -/
theorem fields_x0_oneByte : ∀ op : Byte, fieldX op = 0 → instrLength op = 1 →
    (fieldZ op = 0 → fieldY op = 0) ∧ fieldZ op ≠ 6 := by decide

/-- The fields of a one-byte opcode of row `x = 3`. -/
theorem fields_x3_oneByte : ∀ op : Byte, fieldX op = 3 → instrLength op = 1 →
    (fieldZ op = 0 → fieldY op < 4) ∧ (fieldZ op = 3 → 2 ≤ fieldY op) ∧ fieldZ op ≠ 6 := by decide

theorem decodeX0_noWord {op : Byte} (hx : fieldX op = 0) (h : instrLength op ≠ 3) (v : Byte) (w w' : Word) :
    decodeX0 op v w = decodeX0 op v w' := by
  obtain ⟨h0, h1⟩ := fields_x0_noWord op hx h
  unfold decodeX0
  split
  case h_1 hz =>
    have hy := h0 hz
    unfold decodeX0Z0
    split
    case h_2 => contradiction
    all_goals rfl
  case h_2 hz => rw [h1 hz]; rfl
  all_goals rfl

theorem decodeX3_noWord {op : Byte} (hx : fieldX op = 3) (h : instrLength op ≠ 3) (v : Byte) (w w' : Word) :
    decodeX3 op v w = decodeX3 op v w' := by
  obtain ⟨h2, h3, h4, h5⟩ := fields_x3_noWord op hx h
  unfold decodeX3
  split
  case h_3 hz => rcases h2 hz with hy | hy <;> rw [hy] <;> rfl
  case h_4 hz =>
    have hy := h3 hz
    unfold decodeX3Z3
    split
    case h_1 => contradiction
    all_goals rfl
  case h_5 hz =>
    have hy := h4 hz
    unfold decodeX3Z4
    split
    case h_1 he | h_2 he | h_3 he | h_4 he => exact absurd (he ▸ hy) (by decide)
    all_goals rfl
  case h_6 hz =>
    split
    · next hq =>
      have hp := h5 hz hq
      unfold decodeX3Z5
      split
      case h_1 => contradiction
      all_goals rfl
    · rfl
  all_goals rfl

/-- Only a three-byte instruction looks at its third byte. -/
theorem decodeBytes_noWord {op : Byte} (h : instrLength op ≠ 3) (b1 b2 c2 : Byte) :
    decodeBytes op b1 b2 = decodeBytes op b1 c2 := by
  unfold decodeBytes
  split
  · next hx => exact decodeX0_noWord hx h _ _ _
  · rfl
  · rfl
  · next hx => exact decodeX3_noWord hx h _ _ _

theorem decodeX0_oneByte {op : Byte} (hx : fieldX op = 0) (h : instrLength op = 1) (v v' : Byte) (w : Word) :
    decodeX0 op v w = decodeX0 op v' w := by
  obtain ⟨h0, h6⟩ := fields_x0_oneByte op hx h
  unfold decodeX0
  split
  case h_1 hz => rw [h0 hz]; rfl
  case h_7 => contradiction
  all_goals rfl

theorem decodeX3_oneByte {op : Byte} (hx : fieldX op = 3) (h : instrLength op = 1) (v v' : Byte) (w : Word) :
    decodeX3 op v w = decodeX3 op v' w := by
  obtain ⟨h0, h3, h6⟩ := fields_x3_oneByte op hx h
  unfold decodeX3
  split
  case h_1 hz =>
    have hy := h0 hz
    unfold decodeX3Z0
    split
    case h_5 he | h_6 he | h_7 he | h_8 he => exact absurd (he ▸ hy) (by decide)
    all_goals rfl
  case h_4 hz =>
    have hy := h3 hz
    unfold decodeX3Z3
    split
    case h_1 he | h_2 he => exact absurd (he ▸ hy) (by decide)
    all_goals rfl
  case h_7 => contradiction
  all_goals rfl

/-- A one-byte instruction looks at its opcode alone. -/
theorem decodeBytes_oneByte {op : Byte} (h : instrLength op = 1) (b1 b2 c1 c2 : Byte) :
    decodeBytes op b1 b2 = decodeBytes op c1 c2 := by
  have hw : instrLength op ≠ 3 := by omega
  unfold decodeBytes
  split
  · next hx => exact (decodeX0_oneByte hx h _ _ _).trans (decodeX0_noWord hx hw _ _ _)
  · rfl
  · rfl
  · next hx => exact (decodeX3_oneByte hx h _ _ _).trans (decodeX3_noWord hx hw _ _ _)

/-- Three bytes decode to the instruction they begin, and what it does not take is left. -/
theorem decode_three_eq_ok {op b1 b2 : Byte} {i : Instr} {rest : List Byte} (h : decode [op, b1, b2] = .ok (i, rest)) :
    i = decodeBytes op b1 b2 ∧ rest.length = 3 - instrLength op := by
  have hlen := instrLength_cases op
  unfold decode at h
  dsimp only at h
  rw [if_neg (by simp; omega)] at h
  obtain ⟨rfl, rfl⟩ : decodeBytes op b1 b2 = i ∧ [b1, b2].drop (instrLength op - 1) = rest := by simpa using h
  exact ⟨rfl, by simp; omega⟩

/-! ## The fetch -/

/-- Where `pc` stands once the opcode byte is read: still on it where the HALT-bug latch is set (R121). -/
def State.pcAfterOpcode (s : State) : Word := if s.cpu.haltBug then s.cpu.pc else s.cpu.pc + 1

theorem fetchRest_eq (s : State) (op : Byte) :
    s.fetchRest op = (decodeBytes op ((s.advance 4).cpuRead s.cpu.pc) ((s.advance 8).cpuRead (s.cpu.pc + 1)),
      { s.advance (4 * (instrLength op - 1)) with
        cpu := { s.cpu with pc := s.cpu.pc + BitVec.ofNat 16 (instrLength op - 1) } }) := by
  have h2 : s.cpu.pc + 1 + 1 = s.cpu.pc + 2 := by bv_omega
  unfold State.fetchRest
  rcases instrLength_cases op with h | h | h <;> rw [h]
  · exact Prod.ext (decodeBytes_oneByte h _ _ _ _) (by simp)
  · simp only [imm8_eq]
    exact Prod.ext (decodeBytes_noWord (by omega) _ _ _) rfl
  · simp only [imm8_eq, advance_setCpu, advance_advance, cpuRead_setCpu, h2]
    rfl

/-- A fetch: the bytes each 4 T-cycles on, `pc` past the last, the opcode's address kept, the HALT-bug latch spent. -/
theorem fetch_eq (s : State) :
    let op := (s.advance 4).cpuRead s.cpu.pc
    s.fetch = (decodeBytes op ((s.advance 8).cpuRead s.pcAfterOpcode) ((s.advance 12).cpuRead (s.pcAfterOpcode + 1)),
      { s.advance (4 * instrLength op) with cpu := { s.cpu with
        curAddr := s.cpu.pc, haltBug := false, pc := s.pcAfterOpcode + BitVec.ofNat 16 (instrLength op - 1) } }) := by
  have hlen := instrLength_cases ((s.advance 4).cpuRead s.cpu.pc)
  have h4 : 4 + 4 * (instrLength ((s.advance 4).cpuRead s.cpu.pc) - 1)
      = 4 * instrLength ((s.advance 4).cpuRead s.cpu.pc) := by omega
  unfold State.fetch
  rw [fetchOpcode_eq, fetchRest_eq]
  simp only [advance_setCpu, advance_advance, cpuRead_setCpu, h4]
  rfl

theorem wake_of_not_halted {s : State} (h : s.cpu.halted = false) : s.wake = s := by
  unfold State.wake
  split
  · rw [← h]
  · rfl

/-- With nothing to service and no halt, a live machine's step runs the instruction at `pc`. -/
theorem step_runs {s : State} (hlive : s.live) (hhalted : s.cpu.halted = false) (hime : s.cpu.ime = false) :
    step s = instructionStep s := by
  obtain ⟨hlocked, hrefused⟩ := hlive
  simp [step, serviceOrRun, wake_of_not_halted hhalted, State.toService, hlocked, hrefused, hhalted, hime]

/-- With the EI latch clear the instruction is all there is to the step. -/
theorem instructionStep_of_not_pending {s : State} (h : s.cpu.imePending = false) :
    instructionStep s = exec s.fetch.1 s.fetch.2 := by
  unfold instructionStep
  rw [h]
  cases exec s.fetch.1 s.fetch.2 <;> rfl

/-- Settles O35: the latch holds `pc` for the opcode fetch alone. -/
theorem haltBugFetch : Obligations.HaltBugFetch := by
  intro s i rest hlive hhalted hbug hime hpending hdecode
  have hpc : s.pcAfterOpcode = s.cpu.pc := by simp [State.pcAfterOpcode, hbug]
  have hlen := instrLength_cases ((s.advance 4).cpuRead s.cpu.pc)
  obtain ⟨rfl, hrest⟩ := decode_three_eq_ok hdecode
  have h3 : 3 - rest.length = instrLength ((s.advance 4).cpuRead s.cpu.pc) := by omega
  have h2 : 2 - rest.length = instrLength ((s.advance 4).cpuRead s.cpu.pc) - 1 := by omega
  rw [step_runs hlive hhalted hime, instructionStep_of_not_pending hpending, fetch_eq, hpc, h3, h2]

end Sys2Proof.Machine
end

section
/-! PROOFS. What an instruction can do, said once: register writes, time and memory writes, or one of the few
instructions that touch the run bits (10_state.md R27 to R31). -/

namespace Sys2Proof.Machine

open Sys2Proof

/-- `d` differs from `c` in registers and flags at most: the run bits, the fault record and the kept opcode address are
those of `c`. -/
structure Cpu.SameRun (c d : Cpu) : Prop where
  ime        : d.ime = c.ime
  imePending : d.imePending = c.imePending
  halted     : d.halted = c.halted
  haltBug    : d.haltBug = c.haltBug
  locked     : d.locked = c.locked
  refused    : d.refused = c.refused
  record     : d.record = c.record
  curAddr    : d.curAddr = c.curAddr

theorem Cpu.SameRun.refl (c : Cpu) : c.SameRun c := ⟨rfl, rfl, rfl, rfl, rfl, rfl, rfl, rfl⟩

theorem Cpu.SameRun.trans {c d e : Cpu} (h : c.SameRun d) (k : d.SameRun e) : c.SameRun e :=
  ⟨k.ime.trans h.ime, k.imePending.trans h.imePending, k.halted.trans h.halted, k.haltBug.trans h.haltBug,
    k.locked.trans h.locked, k.refused.trans h.refused, k.record.trans h.record, k.curAddr.trans h.curAddr⟩

theorem Cpu.sameRun_setReg (c : Cpu) (r : Reg) (v : Byte) : c.SameRun (c.setReg r v) := by
  cases r <;> constructor <;> rfl

theorem Cpu.sameRun_setPair (c : Cpu) (p : Pair) (v : Word) : c.SameRun (c.setPair p v) := by
  cases p <;> constructor <;> rfl

theorem Cpu.sameRun_setStackPair (c : Cpu) (p : StackPair) (v : Word) : c.SameRun (c.setStackPair p v) := by
  cases p <;> constructor <;> rfl

/-- `t` comes from `s` by writes of registers and flags, T-cycles and the CPU's bus writes, in any order. -/
inductive Quiet (s : State) : State → Prop
  | refl : Quiet s s
  | regs {u : State} {c : Cpu} (h : Quiet s u) (hc : u.cpu.SameRun c) : Quiet s { u with cpu := c }
  | advance {u : State} (h : Quiet s u) (n : Nat) : Quiet s (u.advance n)
  | cpuWrite {u : State} (h : Quiet s u) (a : Word) (v : Byte) : Quiet s (u.cpuWrite a v)

namespace Quiet

/-- The run bits, the record and the kept opcode address stay. -/
theorem sameRun {s t : State} (h : Quiet s t) : s.cpu.SameRun t.cpu := by
  induction h with
  | refl => exact Cpu.SameRun.refl _
  | regs _ hc ih => exact ih.trans hc
  | advance _ n ih => rwa [advance_cpu]
  | cpuWrite _ a v ih => rwa [cpuWrite_cpu]

variable {s u : State}

/-! The model's shared operations, each out of those above it. -/

@[simp] theorem setReg (h : Quiet s u) (r : Reg) (v : Byte) : Quiet s (u.setReg r v) := h.regs (u.cpu.sameRun_setReg r v)

@[simp] theorem setPair (h : Quiet s u) (p : Pair) (v : Word) : Quiet s (u.setPair p v) := h.regs (u.cpu.sameRun_setPair p v)

@[simp] theorem setFlags (h : Quiet s u) (f : Flags) : Quiet s (u.setFlags f) := h.regs (by constructor <;> rfl)

@[simp] theorem setPc (h : Quiet s u) (v : Word) : Quiet s (u.setPc v) := h.regs (by constructor <;> rfl)

@[simp] theorem setSp (h : Quiet s u) (v : Word) : Quiet s (u.setSp v) := h.regs (by constructor <;> rfl)

@[simp] theorem alu (h : Quiet s u) (o : Alu) (v : Byte) : Quiet s (u.alu o v) := h.regs (by constructor <;> rfl)

@[simp] theorem memWrite (h : Quiet s u) (a : Word) (v : Byte) : Quiet s (u.memWrite a v) := (h.advance 4).cpuWrite a v

@[simp] theorem modifyAtHl (h : Quiet s u) (f : Byte → Flags → Byte × Flags) : Quiet s (u.modifyAtHl f) :=
  ((h.advance 4).setFlags _).memWrite _ _

theorem pushByte (h : Quiet s u) (v : Byte) : Quiet s (u.pushByte v) := (h.setSp _).memWrite _ v

theorem push16 (h : Quiet s u) (v : Word) : Quiet s (u.push16 v) := (h.pushByte _).pushByte _

theorem popByte (h : Quiet s u) : Quiet s u.popByte.2 := (h.advance 4).setSp _

theorem pop16 (h : Quiet s u) : Quiet s u.pop16.2 := h.popByte.popByte

@[simp] theorem jump (h : Quiet s u) (a : Word) (k : Nat) : Quiet s (u.jump a k) := (h.setPc a).advance k

@[simp] theorem call (h : Quiet s u) (a : Word) : Quiet s (u.call a) := (h.push16 _).jump a 4

@[simp] theorem ret (h : Quiet s u) (k : Nat) : Quiet s (u.ret k) := h.pop16.jump _ k

theorem ite {t : State} {p : Prop} [Decidable p] (h : Quiet s u) (h' : Quiet s t) : Quiet s (if p then u else t) := by
  split <;> assumption

/-! The meanings that several rows of the opcode table share. -/

@[simp] theorem loadReg (h : Quiet s u) (r : Reg) (a : Word) : Quiet s (u.loadReg r a) := (h.advance 4).setReg r _

@[simp] theorem storeReg (h : Quiet s u) (r : Reg) (a : Word) : Quiet s (u.storeReg r a) := h.memWrite a _

@[simp] theorem pushPair (h : Quiet s u) (p : StackPair) : Quiet s (u.pushPair p) := (h.push16 _).advance 4

@[simp] theorem popPair (h : Quiet s u) (p : StackPair) : Quiet s (u.popPair p) :=
  h.pop16.regs (Cpu.sameRun_setStackPair _ p _)

@[simp] theorem aluMem (h : Quiet s u) (o : Alu) : Quiet s (u.aluMem o) := (h.advance 4).alu o _

@[simp] theorem incReg (h : Quiet s u) (r : Reg) : Quiet s (u.incReg r) := (h.setReg r _).setFlags _

@[simp] theorem decReg (h : Quiet s u) (r : Reg) : Quiet s (u.decReg r) := (h.setReg r _).setFlags _

@[simp] theorem addHl (h : Quiet s u) (p : Pair) : Quiet s (u.addHl p) := ((h.setPair .hl _).setFlags _).advance 4

@[simp] theorem incPair (h : Quiet s u) (p : Pair) : Quiet s (u.incPair p) := (h.setPair p _).advance 4

@[simp] theorem decPair (h : Quiet s u) (p : Pair) : Quiet s (u.decPair p) := (h.setPair p _).advance 4

@[simp] theorem rotA (h : Quiet s u) (o : Rot) : Quiet s (u.rotA o) := (h.setReg .a _).setFlags _

@[simp] theorem rotReg (h : Quiet s u) (o : Rot) (r : Reg) : Quiet s (u.rotReg o r) := (h.setReg r _).setFlags _

@[simp] theorem rotMem (h : Quiet s u) (o : Rot) : Quiet s (u.rotMem o) := h.modifyAtHl _

@[simp] theorem bitReg (h : Quiet s u) (b : Fin 8) (r : Reg) : Quiet s (u.bitReg b r) := h.setFlags _

@[simp] theorem bitMem (h : Quiet s u) (b : Fin 8) : Quiet s (u.bitMem b) := (h.advance 4).setFlags _

@[simp] theorem resReg (h : Quiet s u) (b : Fin 8) (r : Reg) : Quiet s (u.resReg b r) := h.setReg r _

@[simp] theorem resMem (h : Quiet s u) (b : Fin 8) : Quiet s (u.resMem b) := h.modifyAtHl _

@[simp] theorem setBitReg (h : Quiet s u) (b : Fin 8) (r : Reg) : Quiet s (u.setBitReg b r) := h.setReg r _

@[simp] theorem setBitMem (h : Quiet s u) (b : Fin 8) : Quiet s (u.setBitMem b) := h.modifyAtHl _

@[simp] theorem cb (h : Quiet s u) (op2 : Byte) : Quiet s (u.cb op2) := by
  unfold State.cb
  split
  · exact h.rotReg _ _
  · exact h.rotMem _
  · exact h.bitReg _ _
  · exact h.bitMem _
  · exact h.resReg _ _
  · exact h.resMem _
  · exact h.setBitReg _ _
  · exact h.setBitMem _

@[simp] theorem jpCond (h : Quiet s u) (cc : Cond) (a : Word) : Quiet s (u.jpCond cc a) := (h.jump a 4).ite h

@[simp] theorem jr (h : Quiet s u) (e : Byte) : Quiet s (u.jr e) := h.jump _ 4

@[simp] theorem jrCond (h : Quiet s u) (cc : Cond) (e : Byte) : Quiet s (u.jrCond cc e) := (h.jr e).ite h

@[simp] theorem callCond (h : Quiet s u) (cc : Cond) (a : Word) : Quiet s (u.callCond cc a) := (h.call a).ite h

@[simp] theorem retCond (h : Quiet s u) (cc : Cond) : Quiet s (u.retCond cc) := (h.ret 8).ite (h.advance 4)

end Quiet

/-- What instruction `i` may do from `s`: act quietly, or be one of the instructions that write the run bits. -/
inductive Effect (s : State) : Instr → State → Prop
  | quiet {i : Instr} {t : State} (h : Quiet s t) : Effect s i t
  | di : Effect s .di { s with cpu.ime := false, cpu.imePending := false }
  | ei : Effect s .ei { s with cpu.imePending := true }
  | reti : Effect s .reti s.returnFromInterrupt
  | halt : Effect s .halt s.halt
  | stop (v : Byte) : Effect s (.stop v) s.stop
  | illegal {i : Instr} (op : Byte) (h : isIllegal i = true) : Effect s i (s.raiseIllegal op)

/-- Every instruction completes, with the effect its kind allows. -/
theorem exec_effect (i : Instr) (s : State) : ∃ t, exec i s = .next t ∧ Effect s i t := by
  cases i
  case di => exact ⟨_, rfl, .di⟩
  case ei => exact ⟨_, rfl, .ei⟩
  case reti => exact ⟨_, rfl, .reti⟩
  case halt => exact ⟨_, rfl, .halt⟩
  case stop v => exact ⟨_, rfl, .stop v⟩
  case illegal_d3 => exact ⟨_, rfl, .illegal 0xD3 rfl⟩
  case illegal_db => exact ⟨_, rfl, .illegal 0xDB rfl⟩
  case illegal_dd => exact ⟨_, rfl, .illegal 0xDD rfl⟩
  case illegal_e3 => exact ⟨_, rfl, .illegal 0xE3 rfl⟩
  case illegal_e4 => exact ⟨_, rfl, .illegal 0xE4 rfl⟩
  case illegal_eb => exact ⟨_, rfl, .illegal 0xEB rfl⟩
  case illegal_ec => exact ⟨_, rfl, .illegal 0xEC rfl⟩
  case illegal_ed => exact ⟨_, rfl, .illegal 0xED rfl⟩
  case illegal_f4 => exact ⟨_, rfl, .illegal 0xF4 rfl⟩
  case illegal_fc => exact ⟨_, rfl, .illegal 0xFC rfl⟩
  case illegal_fd => exact ⟨_, rfl, .illegal 0xFD rfl⟩
  case add_sp_e8 => exact ⟨_, rfl, .quiet (((Quiet.refl.setSp _).setFlags _).advance 8)⟩
  case ld_hl_spE8 => exact ⟨_, rfl, .quiet (((Quiet.refl.setPair .hl _).setFlags _).advance 4)⟩
  all_goals exact ⟨_, rfl, .quiet (by simp [Quiet.refl, Quiet.advance])⟩

/-- RETI sets IME over what a return does. -/
theorem returnFromInterrupt_sameRun (s : State) :
    Cpu.SameRun { s.cpu with ime := true } s.returnFromInterrupt.cpu := by
  rw [returnFromInterrupt_eq]
  exact ⟨rfl, rfl, rfl, rfl, rfl, rfl, rfl, rfl⟩

/-- Settles O37, by the effect each kind of instruction may have. -/
theorem runBitWriters : Obligations.RunBitWriters := by
  intro i s
  obtain ⟨t, ht, he⟩ := exec_effect i s
  refine ⟨t, ht, ?_⟩
  cases he with
  | quiet h =>
    have k := h.sameRun
    simp [k.ime, k.imePending, k.halted, k.haltBug, k.locked, k.refused]
  | di => simp
  | ei => simp
  | reti =>
    have k := returnFromInterrupt_sameRun s
    simp [k.imePending, k.halted, k.haltBug, k.locked, k.refused]
  | halt =>
    unfold State.halt
    split <;> simp
  | stop v =>
    unfold State.stop
    split <;> simp [State.refuseStop]
  | illegal op h => simp [State.raiseIllegal, h]

end Sys2Proof.Machine
end

section
/-! PROOFS. Each device's invariant is kept by its tick and by every write of its registers. -/

namespace Sys2Proof.Machine

open Sys2Proof

/-! ## The transfer engine (10_state.md R46) -/

theorem Dma.Inv.tick {d : Dma} (h : d.Inv) : d.tick.Inv := by
  have hactive := dmaTick_active d h.active
  obtain ⟨hremaining, hsub, -⟩ := h
  unfold Dma.tick Dma.copies at *
  split
  · next hc =>
    rw [if_pos hc] at hactive
    exact ⟨by dsimp only; omega, by dsimp only; omega, hactive⟩
  · next hc =>
    rw [if_neg hc] at hactive
    split
    · next ha =>
      rw [if_pos ha] at hactive
      refine ⟨hremaining, ?_, hactive⟩
      have : d.sub + 1 ≠ 4 := by simpa [ha] using hc
      dsimp only
      omega
    · next ha =>
      rw [if_neg ha] at hactive
      exact ⟨hremaining, hsub, hactive⟩

theorem Dma.inv_start (v : Byte) : (Dma.start v).Inv := ⟨Nat.le_refl 160, Nat.zero_lt_succ 3, fun _ => Nat.zero_lt_succ 159⟩

/-! ## The bank registers (20_memory.md R88, R89) -/

theorem Cart.Inv.writeMbc1 {c : Cart} (h : c.Inv) (port : Nat) (v : Byte) : (c.writeMbc1 port v).Inv := by
  unfold Cart.writeMbc1
  split
  · exact h
  · split
    · refine ⟨?_, h.2⟩
      show (if v.setWidth 5 = 0#5 then 1#5 else v.setWidth 5) ≠ 0
      split
      · decide
      · assumption
    · split <;> exact h

theorem Cart.Inv.writeMbc3 {c : Cart} (h : c.Inv) (port : Nat) (v : Byte) : (c.writeMbc3 port v).Inv := by
  unfold Cart.writeMbc3
  split
  · exact h
  · split
    · refine ⟨h.1, ?_⟩
      show (if v.setWidth 7 = 0#7 then 1#7 else v.setWidth 7) ≠ 0
      split
      · decide
      · assumption
    · split <;> exact h

theorem Cart.Inv.writeMbc5 {c : Cart} (h : c.Inv) (port : Nat) (v : Byte) : (c.writeMbc5 port v).Inv := by
  unfold Cart.writeMbc5
  repeat' split
  all_goals exact h

theorem Cart.Inv.writePort {c : Cart} (h : c.Inv) (cfg : Params) (port : Nat) (v : Byte) : (c.writePort cfg port v).Inv := by
  unfold Cart.writePort
  split
  · exact h
  · exact h.writeMbc1 port v
  · exact h.writeMbc3 port v
  · exact h.writeMbc5 port v

/-! ## The APU (63_apu.md R480 to R483) -/

/-- The ranges of a pulse channel. -/
structure Pulse.InRange (c : Pulse) : Prop where
  duty   : c.dutyPos < 8
  ftimer : c.ftimer ≤ 8192
  length : c.length ≤ 64
  vol    : c.vol ≤ 15
  env    : c.envTimer ≤ 8

/-- The ranges of the wave channel. -/
structure WaveChannel.InRange (c : WaveChannel) : Prop where
  ftimer : c.ftimer ≤ 4096
  pos    : c.pos < 32
  length : c.length ≤ 256

/-- The ranges of the noise channel. -/
structure Noise.InRange (c : Noise) : Prop where
  length : c.length ≤ 64
  vol    : c.vol ≤ 15
  env    : c.envTimer ≤ 8

theorem Pulse.zero_inRange : Pulse.zero.InRange := by constructor <;> decide
theorem WaveChannel.zero_inRange : WaveChannel.zero.InRange := by constructor <;> decide
theorem Noise.zero_inRange : Noise.zero.InRange := by constructor <;> decide

/-- The APU's invariant, channel by channel. -/
theorem Apu.inv_iff (a : Apu) : a.Inv ↔
    a.ch1.InRange ∧ a.ch2.InRange ∧ a.ch3.InRange ∧ a.ch4.InRange ∧ a.sweep.timer ≤ 8 ∧ a.fsCount < 8192 ∧ a.fsStep < 8 := by
  constructor
  · rintro ⟨hcount, hstep, ⟨d1, d2⟩, ⟨p1, p2⟩, ⟨w, pos⟩, ⟨l1, l2, l3, l4⟩, ⟨v1, v2, v4⟩, ⟨e1, e2, e4⟩, hsweep⟩
    exact ⟨⟨d1, p1, l1, v1, e1⟩, ⟨d2, p2, l2, v2, e2⟩, ⟨w, pos, l3⟩, ⟨l4, v4, e4⟩, hsweep, hcount, hstep⟩
  · rintro ⟨⟨d1, p1, l1, v1, e1⟩, ⟨d2, p2, l2, v2, e2⟩, ⟨w, pos, l3⟩, ⟨l4, v4, e4⟩, hsweep, hcount, hstep⟩
    exact ⟨hcount, hstep, ⟨d1, d2⟩, ⟨p1, p2⟩, ⟨w, pos⟩, ⟨l1, l2, l3, l4⟩, ⟨v1, v2, v4⟩, ⟨e1, e2, e4⟩, hsweep⟩

/-! The ranges of what the registers give. -/

theorem pulsePeriod_le (nrx3 nrx4 : Byte) : pulsePeriod nrx3 nrx4 ≤ 8192 := by unfold pulsePeriod; omega
theorem wavePeriod_le (nrx3 nrx4 : Byte) : wavePeriod nrx3 nrx4 ≤ 4096 := by unfold wavePeriod; omega
theorem initialVolume_le (v : Byte) : initialVolume v ≤ 15 := by rw [initialVolume_eq]; omega
theorem envelopePeriod_lt (v : Byte) : envelopePeriod v < 8 := by rw [envelopePeriod_eq]; omega
theorem lengthLoad_le (v : Byte) : lengthLoad v ≤ 64 := by unfold lengthLoad; omega
theorem orEight_le {n : Nat} (h : n < 8) : orEight n ≤ 8 := by unfold orEight; split <;> omega
theorem sweepPeriod_lt (a : Apu) : a.sweepPeriod < 8 := by rw [sweepPeriod_eq]; omega
theorem lengthAfter_le (nrx4 : Byte) (n : Nat) : lengthAfter nrx4 n ≤ n := by rw [lengthAfter_eq]; split <;> omega

theorem envelopeVol_le (nrx2 : Byte) {vol : Nat} (timer : Nat) (h : vol ≤ 15) : envelopeVol nrx2 vol timer ≤ 15 := by
  unfold envelopeVol envelopeStep
  repeat' split
  all_goals omega

theorem envelopeTimer_le (nrx2 : Byte) {timer : Nat} (h : timer ≤ 8) : envelopeTimer nrx2 timer ≤ 8 := by
  have := envelopePeriod_lt nrx2
  unfold envelopeTimer
  repeat' split
  all_goals omega

/-! The operations of the channels. -/

theorem Pulse.InRange.tick {c : Pulse} (h : c.InRange) {period : Nat} (hp : period ≤ 8192) : (c.tick period).InRange := by
  unfold Pulse.tick
  split
  · exact { h with duty := Nat.mod_lt _ (by decide), ftimer := hp }
  · exact { h with ftimer := (Nat.sub_le _ _).trans h.ftimer }

theorem WaveChannel.InRange.tick {c : WaveChannel} (h : c.InRange) {period : Nat} (hp : period ≤ 4096) :
    (c.tick period).InRange := by
  unfold WaveChannel.tick
  split
  · exact { h with pos := Nat.mod_lt _ (by decide), ftimer := hp }
  · exact { h with ftimer := (Nat.sub_le _ _).trans h.ftimer }

theorem Noise.InRange.tick {c : Noise} (h : c.InRange) (nr43 : Byte) : (c.tick nr43).InRange := by
  unfold Noise.tick
  split <;> exact { h with }

theorem Pulse.InRange.clockLength {c : Pulse} (h : c.InRange) (nrx4 : Byte) : (c.clockLength nrx4).InRange :=
  { h with length := (lengthAfter_le _ _).trans h.length }

theorem WaveChannel.InRange.clockLength {c : WaveChannel} (h : c.InRange) (nrx4 : Byte) : (c.clockLength nrx4).InRange :=
  { h with length := (lengthAfter_le _ _).trans h.length }

theorem Noise.InRange.clockLength {c : Noise} (h : c.InRange) (nrx4 : Byte) : (c.clockLength nrx4).InRange :=
  { h with length := (lengthAfter_le _ _).trans h.length }

theorem Pulse.InRange.clockEnvelope {c : Pulse} (h : c.InRange) (nrx2 : Byte) : (c.clockEnvelope nrx2).InRange :=
  { h with vol := envelopeVol_le nrx2 _ h.vol, env := envelopeTimer_le nrx2 h.env }

theorem Noise.InRange.clockEnvelope {c : Noise} (h : c.InRange) (nrx2 : Byte) : (c.clockEnvelope nrx2).InRange :=
  { h with vol := envelopeVol_le nrx2 _ h.vol, env := envelopeTimer_le nrx2 h.env }

theorem Pulse.InRange.trigger {c : Pulse} (h : c.InRange) (nrx2 nrx3 nrx4 : Byte) : (c.trigger nrx2 nrx3 nrx4).InRange where
  duty := h.duty
  ftimer := pulsePeriod_le _ _
  length := by
    have := h.length
    unfold Pulse.trigger
    dsimp only
    split <;> omega
  vol := initialVolume_le _
  env := orEight_le (envelopePeriod_lt _)

/-! The operations of the APU. -/

theorem Apu.Inv.ite {a b : Apu} {p : Prop} [Decidable p] (ha : a.Inv) (hb : b.Inv) : Apu.Inv (if p then a else b) := by
  split <;> assumption

theorem Apu.Inv.clockLength {a : Apu} (h : a.Inv) : a.clockLength.Inv := by
  rw [Apu.inv_iff] at h ⊢
  obtain ⟨h1, h2, h3, h4, hrest⟩ := h
  exact ⟨h1.clockLength _, h2.clockLength _, h3.clockLength _, h4.clockLength _, hrest⟩

theorem Apu.Inv.clockEnvelope {a : Apu} (h : a.Inv) : a.clockEnvelope.Inv := by
  rw [Apu.inv_iff] at h ⊢
  obtain ⟨h1, h2, h3, h4, hrest⟩ := h
  exact ⟨h1.clockEnvelope _, h2.clockEnvelope _, h3, h4.clockEnvelope _, hrest⟩

theorem Apu.Inv.sweepCheck {a : Apu} (h : a.Inv) : a.sweepCheck.Inv := { h with }

theorem Apu.Inv.sweepUpdate {a : Apu} (h : a.Inv) : a.sweepUpdate.Inv := by
  have hs : (a.sweepStore (BitVec.ofNat 11 a.sweepNew)).Inv := { h with }
  exact hs.sweepCheck.ite h.sweepCheck

theorem Apu.Inv.clockSweep {a : Apu} (h : a.Inv) : a.clockSweep.Inv := by
  unfold Apu.clockSweep
  split
  · have hs : Apu.Inv { a with sweep.timer := orEight a.sweepPeriod } := { h with sweep := orEight_le (sweepPeriod_lt a) }
    exact hs.sweepUpdate.ite hs
  · exact { h with sweep := (Nat.sub_le _ _).trans h.sweep }

theorem Apu.Inv.frameStep {a : Apu} (h : a.Inv) : a.frameStep.Inv := by
  have hlength := h.clockLength.ite (p := a.fsStep = 0 ∨ a.fsStep = 2 ∨ a.fsStep = 4 ∨ a.fsStep = 6) h
  have hsweep := hlength.clockSweep.ite (p := a.fsStep = 2 ∨ a.fsStep = 6) hlength
  have henvelope := hsweep.clockEnvelope.ite (p := a.fsStep = 7) hsweep
  exact { henvelope with fsStep := Nat.mod_lt _ (by decide) }

theorem Apu.Inv.countFrame {a : Apu} (h : a.Inv) : a.countFrame.Inv := by
  have hcount := h.fsCount
  unfold Apu.countFrame
  split
  · have hz : Apu.Inv { a with fsCount := 0 } := { h with fsCount := Nat.zero_lt_succ 8191 }
    exact hz.frameStep
  · exact { h with fsCount := by dsimp only; omega }

theorem Apu.Inv.tickChannels {a : Apu} (h : a.Inv) : a.tickChannels.Inv := by
  rw [Apu.inv_iff] at h ⊢
  obtain ⟨h1, h2, h3, h4, hrest⟩ := h
  exact ⟨h1.tick (pulsePeriod_le _ _), h2.tick (pulsePeriod_le _ _), h3.tick (wavePeriod_le _ _), h4.tick _, hrest⟩

theorem Apu.Inv.countSample {a : Apu} (h : a.Inv) (wave : Memory) (period : Nat) : (a.countSample wave period).Inv := by
  unfold Apu.countSample
  split <;> exact { h with }

theorem Apu.Inv.tick {a : Apu} (h : a.Inv) (wave : Memory) (period : Nat) : (a.tick wave period).Inv := by
  exact (h.countFrame.tickChannels.ite h).countSample wave period

theorem Apu.Inv.trigger1 {a : Apu} (h : a.Inv) : a.trigger1.Inv := by
  have ht : Apu.Inv (Apu.triggerSweep { a with ch1 := a.ch1.trigger a.nr12 a.nr13 a.nr14 }) := by
    rw [Apu.inv_iff] at h ⊢
    obtain ⟨h1, h2, h3, h4, -, hrest⟩ := h
    exact ⟨h1.trigger _ _ _, h2, h3, h4, orEight_le (sweepPeriod_lt a), hrest⟩
  exact ht.sweepCheck.ite ht

theorem Apu.Inv.trigger2 {a : Apu} (h : a.Inv) : a.trigger2.Inv := by
  rw [Apu.inv_iff] at h ⊢
  obtain ⟨h1, h2, hrest⟩ := h
  exact ⟨h1, h2.trigger _ _ _, hrest⟩

theorem Apu.Inv.trigger3 {a : Apu} (h : a.Inv) : a.trigger3.Inv := by
  rw [Apu.inv_iff] at h ⊢
  obtain ⟨h1, h2, h3, hrest⟩ := h
  refine ⟨h1, h2, ⟨wavePeriod_le _ _, Nat.zero_lt_succ _, ?_⟩, hrest⟩
  have := h3.length
  unfold Apu.trigger3
  dsimp only
  split <;> omega

theorem Apu.Inv.trigger4 {a : Apu} (h : a.Inv) : a.trigger4.Inv := by
  rw [Apu.inv_iff] at h ⊢
  obtain ⟨h1, h2, h3, h4, hrest⟩ := h
  refine ⟨h1, h2, h3, ⟨?_, initialVolume_le _, orEight_le (envelopePeriod_lt _)⟩, hrest⟩
  have := h4.length
  unfold Apu.trigger4
  dsimp only
  split <;> omega

theorem Apu.Inv.writePowered {a : Apu} (h : a.Inv) (r : IoReg) (v : Byte) : (a.writePowered r v).Inv := by
  obtain ⟨l1, l2, l3, l4⟩ := h.lengths
  cases r
  case nr11 => exact { h with lengths := ⟨lengthLoad_le v, l2, l3, l4⟩ }
  case nr21 => exact { h with lengths := ⟨l1, lengthLoad_le v, l3, l4⟩ }
  case nr31 => exact { h with lengths := ⟨l1, l2, Nat.sub_le 256 _, l4⟩ }
  case nr41 => exact { h with lengths := ⟨l1, l2, l3, lengthLoad_le v⟩ }
  case nr14 =>
    have hs : Apu.Inv { a with nr14 := storedNrx4 v } := { h with }
    exact hs.trigger1.ite hs
  case nr24 =>
    have hs : Apu.Inv { a with nr24 := storedNrx4 v } := { h with }
    exact hs.trigger2.ite hs
  case nr34 =>
    have hs : Apu.Inv { a with nr34 := storedNrx4 v } := { h with }
    exact hs.trigger3.ite hs
  case nr44 =>
    have hs : Apu.Inv { a with nr44 := v &&& 0x40#8 } := { h with }
    exact hs.trigger4.ite hs
  all_goals exact { h with }

theorem Apu.Inv.writeNr52 {a : Apu} (h : a.Inv) (v : Byte) : (a.writeNr52 v).Inv := by
  unfold Apu.writeNr52
  split
  · rw [Apu.inv_iff] at h ⊢
    obtain ⟨-, -, -, -, -, hcount, hstep⟩ := h
    exact ⟨Pulse.zero_inRange, Pulse.zero_inRange, WaveChannel.zero_inRange, Noise.zero_inRange, Nat.zero_le 8, hcount,
      hstep⟩
  · split
    · exact { h with fsCount := Nat.zero_lt_succ 8191, fsStep := Nat.zero_lt_succ 7 }
    · exact h

end Sys2Proof.Machine
end

section
/-! PROOFS. The PPU's invariant is kept by a tick, by the STAT line and by every register write (62_ppu.md R420 to R422,
R450). -/

namespace Sys2Proof.Machine

open Sys2Proof

/-! ## Sprite selection -/

theorem length_insertByX (oam : Memory) (n : Nat) (l : List Nat) : (insertByX oam n l).length = l.length + 1 := by
  induction l with
  | nil => rfl
  | cons m rest ih =>
    unfold insertByX
    split <;> simp [ih]

theorem mem_insertByX {oam : Memory} {n k : Nat} {l : List Nat} (h : k ∈ insertByX oam n l) : k = n ∨ k ∈ l := by
  induction l with
  | nil => simpa [insertByX] using h
  | cons m rest ih =>
    unfold insertByX at h
    split at h
    · rcases List.mem_cons.1 h with rfl | h
      · simp
      · rcases ih h with rfl | h <;> simp [*]
    · simpa using h

/-- Sorting by X keeps the number of sprites and brings in none. -/
theorem sortByX_keeps (oam : Memory) (sel : List Nat) :
    (sortByX oam sel).length = sel.length ∧ ∀ k ∈ sortByX oam sel, k ∈ sel := by
  induction sel using List.reverseRecOn with
  | nil => exact ⟨rfl, fun _ h => h⟩
  | append_singleton l n ih =>
    obtain ⟨hlen, hmem⟩ := ih
    have hstep : sortByX oam (l ++ [n]) = insertByX oam n (sortByX oam l) := by simp [sortByX]
    rw [hstep, length_insertByX, hlen]
    refine ⟨by simp, fun k hk => ?_⟩
    rcases mem_insertByX hk with rfl | hk
    · simp
    · simp [hmem k hk]

/-- At most ten sprites are selected, each an entry of OAM (62_ppu.md R433). -/
theorem selectSprites_inRange (p : Ppu) (oam : Memory) :
    (p.selectSprites oam).length ≤ 10 ∧ ∀ n ∈ p.selectSprites oam, n < 40 := by
  unfold Ppu.selectSprites
  obtain ⟨hlen, hmem⟩ := sortByX_keeps oam (((List.range 40).filter (p.covers oam)).take 10)
  refine ⟨hlen.trans_le (List.length_take_le _ _), fun n hn => ?_⟩
  exact List.mem_range.1 (List.mem_of_mem_filter (List.mem_of_mem_take (hmem n hn)))

/-! ## A tick -/

theorem ly_lt_of_modeAt_pixelTransfer {p : Ppu} (h : p.modeAt = .pixelTransfer) : p.ly < 144 := by
  unfold Ppu.modeAt at h
  split at h
  · cases h
  · omega

/-- The pixel lands inside the framebuffer: PixelTransfer comes on lines before 144 only. -/
theorem Ppu.Inv.drawDot {p : Ppu} (h : p.Inv) (hon : p.lcdOn = true) (vram oam : Memory) : (p.drawDot vram oam).Inv := by
  unfold Ppu.drawDot
  split
  · next hc =>
    obtain ⟨hmode, hlo, hhi⟩ := hc
    have hly : p.ly < 144 := ly_lt_of_modeAt_pixelTransfer ((h.mode hon).symm.trans hmode)
    have hkey : 160 * p.ly + (p.dot - 80) < 23040 := by omega
    exact { h with fbForm := ⟨Cells.wf_write h.fbForm.1, Cells.below_write h.fbForm.2 hkey⟩ }
  · exact h

/-- What holds between the step of the position and the mode transition: the ranges, and the mode of the dot before. -/
structure Ppu.Stepped (p : Ppu) : Prop where
  ly          : p.ly < 154
  dot         : p.dot < 456
  mode3Len    : 172 ≤ p.mode3Len ∧ p.mode3Len ≤ 376
  lineSprites : p.lineSprites.length ≤ 10 ∧ ∀ n ∈ p.lineSprites, n < 40
  fbForm      : Cells.wf p.fb = true ∧ Cells.below 23040 p.fb = true
  on          : p.lcdOn = true
  modeBefore  : p.dot ≠ 0 → p.mode = Ppu.modeAt { p with dot := p.dot - 1 }
  vblank      : p.dot = 0 → 144 < p.ly → p.mode = .vblank

theorem Ppu.Inv.nextDot {p : Ppu} (h : p.Inv) (hon : p.lcdOn = true) : p.nextDot.Stepped := by
  have hmode := h.mode hon
  have hdot := h.dot
  have hly := h.ly
  unfold Ppu.nextDot
  split
  · refine ⟨Nat.mod_lt _ (by decide), Nat.zero_lt_succ 455, h.mode3Len, h.lineSprites, h.fbForm, hon,
      fun h0 => absurd rfl h0, ?_⟩
    intro _ hlate
    have : 144 ≤ p.ly := by dsimp only at hlate; omega
    simp [hmode, Ppu.modeAt, this]
  · refine ⟨hly, by dsimp only; omega, h.mode3Len, h.lineSprites, h.fbForm, hon, fun _ => hmode, ?_⟩
    intro h0
    simp at h0

/-- With the mode of its position the PPU meets its invariant again. -/
theorem Ppu.Stepped.inv {p : Ppu} (h : p.Stepped) {m : Mode} {ready : Bool} (hm : m = p.modeAt) :
    Ppu.Inv { p with mode := m, frameReady := ready } where
  ly := h.ly
  dot := h.dot
  mode3Len := h.mode3Len
  lineSprites := h.lineSprites
  fbForm := h.fbForm
  mode _ := hm
  off hoff := absurd (h.on.symm.trans hoff) (by decide)

/-- From line 144 on the mode stays VBlank where the transition does not set it. -/
theorem Ppu.Stepped.mode_vblank {p : Ppu} (h : p.Stepped) (hlate : 144 ≤ p.ly) (hin : ¬(p.ly = 144 ∧ p.dot = 0)) :
    p.mode = .vblank := by
  by_cases h0 : p.dot = 0
  · exact h.vblank h0 (by omega)
  · rw [h.modeBefore h0]
    simp [Ppu.modeAt, hlate]

/-- Between the dots of a transition the mode of the dot before is that of this dot. -/
theorem Ppu.Stepped.mode_eq_modeAt {p : Ppu} (h : p.Stepped) (h0 : p.dot ≠ 0) (h80 : p.dot ≠ 80)
    (hend : p.dot ≠ 80 + p.mode3Len) : p.mode = p.modeAt := by
  have hscan : p.dot - 1 < 80 ↔ p.dot < 80 := by omega
  have htransfer : p.dot - 1 < 80 + p.mode3Len ↔ p.dot < 80 + p.mode3Len := by omega
  rw [h.modeBefore h0]
  simp only [Ppu.modeAt, hscan, htransfer]

/-- The transition gives the mode of R422 again. -/
theorem Ppu.Stepped.transition {p : Ppu} (h : p.Stepped) (oam : Memory) (table : List Nat) :
    (p.transition oam table).Inv := by
  unfold Ppu.transition
  split
  · next hlate =>
    have hv : p.modeAt = .vblank := by simp [Ppu.modeAt, hlate]
    split
    · exact h.inv hv.symm
    · next hin => exact h.inv ((h.mode_vblank hlate hin).trans hv.symm)
  · next hearly =>
    split
    · next h0 => exact h.inv (by simp [Ppu.modeAt, hearly, h0])
    · next h0 =>
      split
      · next h80 =>
        have hextra : p.mode3Extra table (p.selectSprites oam).length ≤ 204 := Nat.min_le_left _ _
        exact {
          ly := h.ly
          dot := h.dot
          mode3Len := ⟨Nat.le_add_right _ _, by dsimp only; omega⟩
          lineSprites := selectSprites_inRange p oam
          fbForm := h.fbForm
          mode := fun _ => by simp [Ppu.modeAt, hearly, h80]
          off := fun hoff => absurd (h.on.symm.trans hoff) (by decide) }
      · next h80 =>
        split
        · next hend => exact h.inv (by simp [Ppu.modeAt, hearly, hend])
        · next hend => exact h.inv (h.mode_eq_modeAt h0 h80 hend)

theorem Ppu.Inv.updateStatLine {p : Ppu} (h : p.Inv) : p.updateStatLine.Inv where
  ly := h.ly
  dot := h.dot
  mode3Len := h.mode3Len
  lineSprites := h.lineSprites
  fbForm := h.fbForm
  mode := h.mode
  off hoff := by
    obtain ⟨hly, hdot, hmode, -⟩ := h.off hoff
    refine ⟨hly, hdot, hmode, ?_⟩
    have hlcd : p.lcdOn = false := hoff
    simp [Ppu.updateStatLine, Ppu.statLevel, hlcd]

theorem drawDot_lcdOn (p : Ppu) (vram oam : Memory) : (p.drawDot vram oam).lcdOn = p.lcdOn := by
  unfold Ppu.drawDot
  split <;> rfl

theorem Ppu.Inv.tick {p : Ppu} (h : p.Inv) (vram oam : Memory) (table : List Nat) : (p.tick vram oam table).Inv := by
  unfold Ppu.tick
  split
  · next hon =>
    have hdrawn := h.drawDot hon vram oam
    exact ((hdrawn.nextDot ((drawDot_lcdOn p vram oam).trans hon)).transition oam table).updateStatLine
  · exact h

/-! ## Register writes -/

/-- Off, the PPU stands at line 0, dot 0, in HBlank (62_ppu.md R450). -/
theorem Ppu.Inv.turnOff {p : Ppu} (h : p.Inv) {v : Byte} (hoff : Ppu.lcdOn { p with lcdc := v } = false) :
    (Ppu.turnOff { p with lcdc := v }).Inv where
  ly := Nat.zero_lt_succ 153
  dot := Nat.zero_lt_succ 455
  mode3Len := h.mode3Len
  lineSprites := ⟨Nat.zero_le 10, fun _ hn => absurd hn List.not_mem_nil⟩
  fbForm := ⟨rfl, rfl⟩
  mode hon := absurd (hon.symm.trans hoff) (by decide)
  off _ := ⟨rfl, rfl, rfl, rfl⟩

/-- On, the PPU starts at line 0, dot 0, in OamScan (62_ppu.md R450). -/
theorem Ppu.Inv.turnOn {p : Ppu} (h : p.Inv) {v : Byte} (hon : Ppu.lcdOn { p with lcdc := v } = true) :
    (Ppu.turnOn { p with lcdc := v }).Inv where
  ly := Nat.zero_lt_succ 153
  dot := Nat.zero_lt_succ 455
  mode3Len := h.mode3Len
  lineSprites := h.lineSprites
  fbForm := h.fbForm
  mode _ := rfl
  off hoff := absurd (hon.symm.trans hoff) (by decide)

theorem Ppu.Inv.writeLcdc {p : Ppu} (h : p.Inv) (v : Byte) : (p.writeLcdc v).Inv := by
  unfold Ppu.writeLcdc
  cases hp : p.lcdOn <;> cases hq : Ppu.lcdOn { p with lcdc := v }
  case true.false => simpa [hq] using h.turnOff hq
  case false.true => simpa [hq] using h.turnOn hq
  case true.true =>
    have hkept : Ppu.Inv { p with lcdc := v } :=
      { h with mode := fun _ => h.mode hp, off := fun hoff => absurd (hq.symm.trans hoff) (by decide) }
    simpa [hq] using hkept
  case false.false =>
    have hkept : Ppu.Inv { p with lcdc := v } :=
      { h with mode := fun hon => absurd (hon.symm.trans hq) (by decide), off := fun _ => h.off hp }
    simpa [hq] using hkept

end Sys2Proof.Machine
end

section
/-! PROOFS. The invariant of the whole machine: at reset, and kept by every step. -/

namespace Sys2Proof.Machine

open Sys2Proof

/-- The invariant but for the CPU's part: memories, PPU, transfer engine, APU and bank registers. -/
structure State.DevInv (s : State) : Prop where
  mem  : s.MemInv
  ppu  : s.ppu.Inv
  dma  : s.dma.Inv
  apu  : s.apu.Inv
  cart : s.cart.Inv

theorem State.Inv.devInv {s : State} (h : s.Inv) : s.DevInv := ⟨h.mem, h.ppu, h.dma, h.apu, h.cart⟩

theorem State.DevInv.inv {s : State} (h : s.DevInv) (hc : s.cpu.Inv) : s.Inv := ⟨hc, h.mem, h.ppu, h.dma, h.apu, h.cart⟩

/-- Without a terminal mark the CPU's part holds. -/
theorem State.live.cpuInv {s : State} (h : s.live) : s.cpu.Inv := by
  obtain ⟨hl, hr⟩ := h
  constructor <;> simp [hl, hr]

/-! ## Time and writes -/

theorem State.DevInv.tick {s : State} (h : s.DevInv) : s.tick.DevInv where
  mem := tick_mem_wf s h.mem h.dma.active
  ppu := h.ppu.tick _ _ _
  dma := h.dma.tick
  apu := h.apu.tick _ _
  cart := h.cart

theorem State.DevInv.advance {s : State} (h : s.DevInv) (n : Nat) : (s.advance n).DevInv := by
  induction n generalizing s with
  | zero => exact h
  | succ n ih => exact ih h.tick

theorem State.DevInv.apuWrite {s : State} (h : s.DevInv) (r : IoReg) (v : Byte) : (s.apuWrite r v).DevInv :=
  { h with apu := (h.apu.writePowered r v).ite h.apu }

theorem State.DevInv.ioWrite {s : State} (h : s.DevInv) {o : Nat} {r : IoReg} (hr : ioRegAt o = some r) (v : Byte) :
    (s.ioWrite r v).DevInv := by
  have hmem : (s.ioWrite r v).MemInv := ioWrite_mem_wf s h.mem hr v
  cases r
  case nr52 => exact { h with apu := h.apu.writeNr52 v }
  case wave i => exact { h with mem := hmem }
  case lcdc => exact { h with ppu := (h.ppu.writeLcdc v).updateStatLine }
  case stat =>
    have hp : (s.ppu.writeStat v).Inv := { h.ppu with }
    exact { h with ppu := hp.updateStatLine }
  case lyc =>
    have hp : Ppu.Inv { s.ppu with lyc := v } := { h.ppu with }
    exact { h with ppu := hp.updateStatLine }
  case dma => exact { h with dma := Dma.inv_start v }
  case scy | scx | bgp | obp0 | obp1 | wy | wx => exact { h with ppu := { h.ppu with } }
  case p1 | sb | sc | div | tima | tma | tac | iflag | ly => exact { h with }
  all_goals exact h.apuWrite _ v

theorem State.DevInv.extWrite {s : State} (h : s.DevInv) (o : Nat) (v : Byte) : (s.extWrite o v).DevInv := by
  have hmem : (s.extWrite o v).MemInv := extWrite_mem_wf s h.mem o v
  unfold State.extWrite at *
  split at hmem <;> exact { h with mem := hmem }

theorem State.DevInv.busWrite {s : State} (h : s.DevInv) (a : Word) (v : Byte) : (s.busWrite a v).DevInv := by
  have hmem : (s.busWrite a v).MemInv := busWrite_mem_wf s h.mem a v
  unfold State.busWrite at hmem ⊢
  generalize regionOf a = r at hmem ⊢
  cases r
  case rom0 | romX => exact { h with cart := h.cart.writePort _ _ v }
  case ext o => exact h.extWrite o v
  case io o =>
    dsimp only
    split
    · next hr => exact h.ioWrite hr v
    · exact h
  all_goals exact { h with mem := hmem }

theorem State.DevInv.cpuWrite {s : State} (h : s.DevInv) (a : Word) (v : Byte) : (s.cpuWrite a v).DevInv := by
  unfold State.cpuWrite
  split
  · exact h
  · exact h.busWrite a v

theorem Quiet.devInv {s t : State} (hq : Quiet s t) (h : s.DevInv) : t.DevInv := by
  induction hq with
  | refl => exact h
  | regs _ _ ih => exact { ih with }
  | advance _ n ih => exact ih.advance n
  | cpuWrite _ a v ih => exact ih.cpuWrite a v

/-! ## One instruction -/

/-- An instruction that a live machine runs keeps the invariant: quiet ones leave the terminal marks clear, and an
instruction that sets one fills the record (10_state.md R31). -/
theorem Effect.inv {s t : State} {i : Instr} (he : Effect s i t) (h : s.DevInv) (hlive : s.live) : t.Inv := by
  obtain ⟨hl, hr⟩ := hlive
  cases he with
  | quiet hq =>
    have k := hq.sameRun
    exact (hq.devInv h).inv (State.live.cpuInv ⟨k.locked.trans hl, k.refused.trans hr⟩)
  | di => exact State.DevInv.inv { h with } (State.live.cpuInv ⟨hl, hr⟩)
  | ei => exact State.DevInv.inv { h with } (State.live.cpuInv ⟨hl, hr⟩)
  | reti =>
    rw [returnFromInterrupt_eq]
    exact State.DevInv.inv { h.advance 12 with } (State.live.cpuInv ⟨hl, hr⟩)
  | halt =>
    unfold State.halt
    split <;> exact State.DevInv.inv { h with } (State.live.cpuInv ⟨hl, hr⟩)
  | stop v =>
    unfold State.stop
    split
    · exact h.inv (State.live.cpuInv ⟨hl, hr⟩)
    · exact State.DevInv.inv { h with }
        ⟨fun hb => by simp [State.refuseStop, hl] at hb, fun hb => by simp [State.refuseStop, hl] at hb,
          fun _ => ⟨_, rfl, rfl, rfl⟩⟩
  | illegal op _ =>
    exact State.DevInv.inv { h with }
      ⟨fun hb => by simp [State.raiseIllegal, hr] at hb, fun _ => ⟨_, rfl, rfl, rfl⟩,
        fun hb => by simp [State.raiseIllegal, hr] at hb⟩

/-! ## One step -/

theorem State.DevInv.wake {s : State} (h : s.DevInv) : s.wake.DevInv := by
  unfold State.wake
  split
  · exact { h with }
  · exact h

theorem State.live.wake {s : State} (h : s.live) : s.wake.live := by
  unfold State.wake
  split <;> exact h

theorem State.DevInv.fetch {s : State} (h : s.DevInv) : s.fetch.2.DevInv := by
  rw [fetch_eq]
  exact { h.advance _ with }

theorem State.live.fetch {s : State} (h : s.live) : s.fetch.2.live := by
  rw [fetch_eq]
  exact h

theorem State.DevInv.service {s : State} (h : s.DevInv) (i : Source) : (s.service i).DevInv := by
  have hu : State.DevInv { s with cpu.ime := false, cpu.haltBug := false, irq := s.irq.acknowledge i } := { h with }
  exact (((Quiet.refl.push16 _).setPc _).advance 12).devInv hu

theorem State.live.service {s : State} (h : s.live) (i : Source) : (s.service i).live := by
  unfold State.live
  rw [service_cpu]
  exact h

theorem State.Inv.transferLatch {s : State} (h : s.Inv) (was : Bool) : (s.transferLatch was).Inv := by
  unfold State.transferLatch
  split
  · exact { h with cpu := { h.cpu with } }
  · exact h

theorem instructionStep_inv {s t : State} (h : s.DevInv) (hlive : s.live) (hstep : instructionStep s = .next t) : t.Inv := by
  obtain ⟨u, hu, he⟩ := exec_effect s.fetch.1 s.fetch.2
  unfold instructionStep at hstep
  rw [hu] at hstep
  cases hstep
  exact (he.inv h.fetch hlive.fetch).transferLatch _

/-- A step taken: the machine was live, and it serviced an interrupt, idled or ran an instruction after the wake (R340). -/
theorem step_cases {s t : State} (h : step s = .next t) : s.live ∧
    ((∃ i, t = s.wake.service i) ∨ t = s.wake.advance 4 ∨ instructionStep s.wake = .next t) := by
  unfold step at h
  split at h
  · cases h
  · split at h
    · cases h
    · next hl hr =>
      refine ⟨⟨by simpa using hl, by simpa using hr⟩, ?_⟩
      unfold serviceOrRun at h
      split at h
      · next i _ => cases h; exact .inl ⟨i, rfl⟩
      · split at h
        · cases h; exact .inr (.inl rfl)
        · exact .inr (.inr h)

/-- Settles O59: each of the three kinds of step keeps the devices' part, and the CPU's part is that of a live machine or
of the instruction that ended it. -/
theorem stepKeepsInvariant : Obligations.StepKeepsInvariant := by
  intro s t h hstep
  obtain ⟨hlive, hcase⟩ := step_cases hstep
  have hdev : s.wake.DevInv := h.devInv.wake
  rcases hcase with ⟨i, rfl⟩ | rfl | hrun
  · exact (hdev.service i).inv (hlive.wake.service i).cpuInv
  · have hl : (s.wake.advance 4).live := by
      unfold State.live
      rw [advance_cpu]
      exact hlive.wake
    exact (hdev.advance 4).inv hl.cpuInv
  · exact instructionStep_inv hdev hlive.wake hrun

/-! ## Reset -/

/-- A machine that `powerOn` gives is the reset state over the checked parameters (R530). -/
theorem powerOn_eq_next {c : Sys2Proof.Config} {s : State} : powerOn c = .next s ↔
    ∃ p, Config.params c = .ok p ∧ s = State.initial p (Config.memories c p) c.rtcStub := by
  unfold powerOn
  cases Config.params c with
  | error f => simp
  | ok p => simp [eq_comm]

theorem Ppu.reset_inv : Ppu.reset.Inv where
  ly := by decide
  dot := by decide
  mode3Len := by decide
  lineSprites := ⟨by decide, fun _ hn => absurd hn List.not_mem_nil⟩
  fbForm := by decide
  mode := by decide
  off := by decide

theorem Apu.reset_inv : Apu.reset.Inv := by constructor <;> decide

theorem Cart.reset_inv (rtc : Rtc) : (Cart.reset rtc).Inv :=
  ⟨(by decide : (1 : BitVec 5) ≠ 0), (by decide : (1 : BitVec 7) ≠ 0)⟩

/-- The reset state meets the invariant whatever the parameters, once the memories are in form. -/
theorem initial_inv (p : Params) {m : Mem} (hm : m.wf = true) (rtc : Rtc) : (State.initial p m rtc).Inv where
  cpu := State.live.cpuInv ⟨rfl, rfl⟩
  mem := hm
  ppu := Ppu.reset_inv
  dma := ⟨Nat.zero_le 160, Nat.zero_lt_succ 3, fun ha => absurd ha Bool.false_ne_true⟩
  apu := Apu.reset_inv
  cart := Cart.reset_inv rtc

/-- Settles O58: every configuration's memories are in form. -/
theorem invariantAtReset : Obligations.InvariantAtReset := by
  refine ⟨initial_inv _ reset_mem_wf _, fun c s hs => ?_⟩
  obtain ⟨p, -, rfl⟩ := powerOn_eq_next.1 hs
  exact initial_inv p (memories_wf c p) _

theorem Cpu.reset_flagsByte : Cpu.reset.f.toByte = 0xB0 := by decide

/-- Settles O5: the CPU of the reset state is one constant. -/
theorem cpuResetValues : Obligations.CpuResetValues := by
  intro c s hs
  obtain ⟨p, -, rfl⟩ := powerOn_eq_next.1 hs
  exact ⟨rfl, Cpu.reset_flagsByte, rfl, rfl, rfl, rfl, rfl, rfl, rfl, rfl, rfl, rfl, rfl, rfl, rfl, rfl, rfl, rfl⟩

/-- An I/O register of a device, or IE: an address whose byte no configured image holds. -/
def isDeviceRegister (a : Word) : Bool :=
  match regionOf a with
  | .io o =>
    match ioRegAt o with
    | some (.wave _) => false
    | _ => true
  | .ie => true
  | _ => false

/-- Right after reset a device's register reads the same in every configuration. -/
theorem cpuRead_initial_device (p : Params) (m : Mem) (rtc : Rtc) {a : Word} (h : isDeviceRegister a = true) :
    (State.initial p m rtc).cpuRead a = State.reset.cpuRead a := by
  show State.busRead _ a = State.busRead _ a
  unfold isDeviceRegister at h
  unfold State.busRead
  generalize regionOf a = x at h ⊢
  cases x
  case io o =>
    dsimp only at h ⊢
    generalize ioRegAt o = r at h ⊢
    rcases r with - | r
    · rfl
    · cases r
      case wave i => cases h
      all_goals rfl
  case ie => rfl
  all_goals cases h

/-- Settles O6: the devices of the reset state are constants, and the registers listed read no configured byte. -/
theorem registerResetReads : Obligations.RegisterResetReads := by
  intro c s hs
  obtain ⟨p, -, rfl⟩ := powerOn_eq_next.1 hs
  refine ⟨rfl, rfl, rfl, rfl, fun _ _ => rfl, rfl, rfl, rfl, fun q hq => ?_⟩
  have hdevice : isDeviceRegister q.1 = true :=
    (List.all_eq_true (p := fun q : Word × Byte => isDeviceRegister q.1)).1 (by decide) q hq
  have hreset : decide (State.reset.cpuRead q.1 = q.2) = true :=
    (List.all_eq_true (p := fun q : Word × Byte => decide (State.reset.cpuRead q.1 = q.2))).1 (by decide) q hq
  exact (cpuRead_initial_device p _ _ hdevice).trans (of_decide_eq_true hreset)

end Sys2Proof.Machine
end

section
/-! PROOFS. The cartridge header and the configured images (20_memory.md R84, R85; 10_state.md R52). -/

namespace Sys2Proof.Machine

open Sys2Proof

/-! ## A configured image as a function of its list -/

theorem Cells.read_foldl_write {n : Nat} (l : List (Nat × BitVec n)) {m : List (Nat × BitVec n)} (hm : Cells.wf m = true)
    (k : Nat) : Cells.read (l.foldl (fun m c => Cells.write m c.1 c.2) m) k
      = ((l.reverse.find? fun c => c.1 == k).map Prod.snd).getD (Cells.read m k) := by
  induction l generalizing m with
  | nil => rfl
  | cons c l ih =>
    rw [List.foldl_cons, ih (Cells.wf_write hm), Cells.read_write hm, List.reverse_cons, List.find?_append]
    cases l.reverse.find? fun c => c.1 == k with
    | some d => rfl
    | none =>
      by_cases hk : k = c.1
      · simp [hk]
      · simp [hk, Ne.symm hk]

/-- Dropping the pairs outside an image drops the key exactly where it lies outside. -/
theorem find?_key_filter_lt (size k : Nat) (l : List Host.Cell) :
    ((l.filter fun c => decide (c.1 < size)).find? fun c => c.1 == k)
      = if k < size then l.find? fun c => c.1 == k else none := by
  induction l with
  | nil => simp
  | cons c l ih =>
    by_cases hc : c.1 = k
    · subst hc
      by_cases hs : c.1 < size
      · simp [hs]
      · simpa [hs] using ih
    · by_cases hs : c.1 < size <;> simpa [hs, hc] using ih

/-- An image inside its size reads as the last pair listed for the offset, 0 where none is; outside it, as 0. -/
theorem read_imageOf (size : Nat) (l : List Host.Cell) (k : Nat) :
    Cells.read (imageOf size l) k
      = if k < size then ((l.reverse.find? fun c => c.1 == k).map Prod.snd).getD 0 else 0 := by
  refine (Cells.read_foldl_write (m := []) _ rfl k).trans ?_
  rw [← List.filter_reverse, find?_key_filter_lt]
  split <;> rfl

/-! ## The header's codes -/

/-- The header bytes that name a supported kind. -/
def isCartCode (code : Byte) : Prop :=
  code.toNat ≤ 3 ∨ (0x0F ≤ code.toNat ∧ code.toNat ≤ 0x13) ∨ (0x19 ≤ code.toNat ∧ code.toNat ≤ 0x1E)

/-- The kind a supported header byte names. -/
def cartKindNamed (code : Byte) : CartKind :=
  if code = 0 then .none else if code.toNat ≤ 0x03 then .mbc1 else if code.toNat ≤ 0x13 then .mbc3 else .mbc5

/-- The header bytes that name a RAM size. -/
def isRamCode (code : Byte) : Prop := code = 0 ∨ code = 2 ∨ code = 3 ∨ code = 4 ∨ code = 5

theorem cartKindOf_eq_some_iff {code : Byte} {kind : CartKind} :
    cartKindOf code = some kind ↔ isCartCode code ∧ kind = cartKindNamed code := by
  unfold isCartCode cartKindNamed
  revert code
  cases kind <;> decide

theorem cartKindNamed_eq_none_iff (code : Byte) : cartKindNamed code = .none ↔ code = 0 := by
  unfold cartKindNamed
  revert code
  decide

theorem romBanksOf_eq_some_iff {code : Byte} {banks : Nat} :
    romBanksOf code = some banks ↔ code.toNat ≤ 8 ∧ banks = 2 ^ (code.toNat + 1) := by
  simp [romBanksOf, Nat.shiftLeft_eq, Nat.pow_succ', eq_comm]

theorem ramBanksOf_eq_some_iff {code : Byte} {banks : Nat} :
    ramBanksOf code = some banks ↔ isRamCode code ∧ banks = [0, 0, 1, 4, 16, 8].getD code.toNat 0 := by
  unfold isRamCode
  have h : ∀ code : Byte, ramBanksOf code =
      if code = 0 ∨ code = 2 ∨ code = 3 ∨ code = 4 ∨ code = 5 then some ([0, 0, 1, 4, 16, 8].getD code.toNat 0)
      else none := by decide
  rw [h]
  split
  · next hc => exact ⟨fun he => ⟨hc, (Option.some.inj he).symm⟩, fun he => congrArg some he.2.symm⟩
  · next hc => exact ⟨fun he => (nomatch he), fun he => absurd he.1 hc⟩

/-- The two-bank rule for kind None, on the size code. -/
theorem two_banks_iff (code : Byte) : 2 ^ (code.toNat + 1) = 2 ↔ code = 0 := by
  have h : 2 ^ (code.toNat + 1) = 2 ^ 1 ↔ code.toNat + 1 = 1 := (Nat.pow_right_injective (Nat.le_refl 2)).eq_iff
  rw [← BitVec.toNat_inj]
  exact h.trans (by simp)

/-- The configurations that R84, R85 and R361 accept. -/
structure Config.WellFormed (c : Sys2Proof.Config) : Prop where
  kind   : isCartCode (Config.romByte c 0x147)
  size   : (Config.romByte c 0x148).toNat ≤ 8
  length : c.romLength = 2 ^ ((Config.romByte c 0x148).toNat + 1) * 0x4000
  noBank : Config.romByte c 0x147 = 0 → Config.romByte c 0x148 = 0
  ram    : isRamCode (Config.romByte c 0x149)

/-- The parameters that an accepted header names. -/
def Config.named (c : Sys2Proof.Config) : Params where
  cartKind     := cartKindNamed (Config.romByte c 0x147)
  romBanks     := 2 ^ ((Config.romByte c 0x148).toNat + 1)
  ramBanks     := [0, 0, 1, 4, 16, 8].getD (Config.romByte c 0x149).toNat 0
  stopMode     := c.stopMode
  mode3Extra   := c.mode3Extra
  samplePeriod := c.samplePeriod

theorem params_of_wellFormed {c : Sys2Proof.Config} (h : Config.WellFormed c) : Config.params c = .ok (Config.named c) := by
  obtain ⟨hkind, hsize, hlength, hnone, hram⟩ := h
  have hbanks : ¬(c.romLength ≠ 2 ^ ((Config.romByte c 0x148).toNat + 1) * 0x4000
      ∨ (cartKindNamed (Config.romByte c 0x147) = .none ∧ 2 ^ ((Config.romByte c 0x148).toNat + 1) ≠ 2)) := by
    rw [cartKindNamed_eq_none_iff, Ne, Ne, two_banks_iff]
    tauto
  unfold Config.params
  rw [cartKindOf_eq_some_iff.2 ⟨hkind, rfl⟩]
  dsimp only
  rw [romBanksOf_eq_some_iff.2 ⟨hsize, rfl⟩]
  dsimp only
  rw [if_neg hbanks, ramBanksOf_eq_some_iff.2 ⟨hram, rfl⟩]
  rfl

theorem wellFormed_of_params {c : Sys2Proof.Config} {p : Params} (h : Config.params c = .ok p) : Config.WellFormed c := by
  unfold Config.params at h
  split at h
  · cases h
  · next kind hkind =>
    obtain ⟨hcode, rfl⟩ := cartKindOf_eq_some_iff.1 hkind
    split at h
    · cases h
    · next banks hbanks =>
      obtain ⟨hsize, rfl⟩ := romBanksOf_eq_some_iff.1 hbanks
      split at h
      · cases h
      · next hok =>
        rw [cartKindNamed_eq_none_iff, Ne, Ne, two_banks_iff] at hok
        split at h
        · cases h
        · next ram hram => exact ⟨hcode, hsize, by tauto, by tauto, (ramBanksOf_eq_some_iff.1 hram).1⟩

/-- Settles O7: the header is accepted exactly when it is well formed, and then names the parameters. -/
theorem configurationFaults : Obligations.ConfigurationFaults := by
  intro c kind size ram
  refine ⟨⟨?_, ?_⟩, ?_⟩
  · rintro ⟨s, hs⟩
    obtain ⟨p, hp, -⟩ := powerOn_eq_next.1 hs
    obtain ⟨hkind, hsize, hlength, hnone, hram⟩ := wellFormed_of_params hp
    exact ⟨hkind, hsize, hlength, hnone, hram⟩
  · rintro ⟨hkind, hsize, hlength, hnone, hram⟩
    exact ⟨_, powerOn_eq_next.2 ⟨_, params_of_wellFormed ⟨hkind, hsize, hlength, hnone, hram⟩, rfl⟩⟩
  · intro s hs
    obtain ⟨p, hp, rfl⟩ := powerOn_eq_next.1 hs
    obtain rfl : Config.named c = p := by
      rw [params_of_wellFormed (wellFormed_of_params hp)] at hp
      exact Except.ok.inj hp
    exact ⟨rfl, read_imageOf _ _, read_imageOf _ _, read_imageOf _ _, read_imageOf _ _, read_imageOf _ _,
      read_imageOf _ _, read_imageOf _ _, rfl⟩

end Sys2Proof.Machine
end

section
/-! PROOFS. The views of the registers (10_state.md R21, R24) and CPU control (46_cpu_control.md R320 to R325). -/

namespace Sys2Proof.Machine

open Sys2Proof

/-! ## Views -/

theorem toByte_eq_ofNat (f : Flags) :
    f.toByte = BitVec.ofNat 8 (128 * f.z.toNat + 64 * f.n.toNat + 32 * f.h.toNat + 16 * f.c.toNat) := by
  obtain ⟨z, n, h, c⟩ := f
  cases z <;> cases n <;> cases h <;> cases c <;> rfl

/-- The flags a word's low byte holds, by the word's own bits. -/
theorem ofByte_loByte (w : Word) :
    Flags.ofByte (loByte w) = ⟨w.getLsbD 7, w.getLsbD 6, w.getLsbD 5, w.getLsbD 4⟩ := by
  simp [Flags.ofByte, loByte]

/-- AF written and read back has lost F's low nibble. -/
theorem joinBytes_ofByte (w : Word) : joinBytes (Flags.ofByte (loByte w)).toByte (hiByte w) = w &&& 0xFFF0#16 := by
  have hhi : hiByte w &&& 0xFF#8 = hiByte w := BitVec.and_allOnes
  rw [toByte_ofByte]
  calc joinBytes (loByte w &&& 0xF0#8) (hiByte w)
      = (hiByte w &&& 0xFF#8) ++ (loByte w &&& 0xF0#8) := by rw [hhi]; rfl
    _ = joinBytes (loByte w) (hiByte w) &&& joinBytes 0xF0#8 0xFF#8 := BitVec.and_append.symm
    _ = w &&& 0xFFF0#16 := by rw [joinBytes_loByte_hiByte]; rfl

theorem setReg_onlyReg (s : State) (r : Reg) (v : Byte) : OnlyReg s s r v s.cpu.f (s.setReg r v) where
  value := by simp
  others q hq := by simp [hq]
  flags := by simp
  rest := by cases r <;> rfl

/-- Settles O4: what `setPair` and `setReg` write, and F through `Flags.ofByte` and `Flags.toByte`. -/
theorem pairViews : Obligations.PairViews := by
  intro s v w
  refine ⟨toNat_hiByte w, toNat_loByte w, rfl, rfl, rfl, rfl, rfl, rfl, rfl, rfl,
    fun p => ⟨rfl, pair_setPair s p w⟩, fun r => setReg_onlyReg s r v, rfl, toByte_eq_ofNat _, ?_, ?_, ?_⟩
  · simp [Cpu.setStackPair, ofByte_loByte]
  · exact joinBytes_ofByte w
  · simp only [List.forall_mem_cons]
    exact ⟨⟨rfl, rfl⟩, ⟨rfl, rfl⟩, ⟨rfl, rfl⟩, fun _ h => absurd h List.not_mem_nil⟩

/-! ## CPU control -/

theorem exec_rotReg (o : Rot) (r : Reg) (s : State) : exec (rotReg o r) s = .next (s.rotReg o r) := by
  cases o <;> cases r <;> rfl

theorem exec_rotMem (o : Rot) (s : State) : exec (rotMem o) s = .next (s.rotMem o) := by cases o <;> rfl

theorem exec_bitReg (b : Fin 8) (r : Reg) (s : State) : exec (bitReg b r) s = .next (s.bitReg b r) := by
  fin_cases b <;> cases r <;> rfl

theorem exec_bitMem (b : Fin 8) (s : State) : exec (bitMem b) s = .next (s.bitMem b) := by fin_cases b <;> rfl

theorem exec_resReg (b : Fin 8) (r : Reg) (s : State) : exec (resReg b r) s = .next (s.resReg b r) := by
  fin_cases b <;> cases r <;> rfl

theorem exec_resMem (b : Fin 8) (s : State) : exec (resMem b) s = .next (s.resMem b) := by fin_cases b <;> rfl

theorem exec_setReg (b : Fin 8) (r : Reg) (s : State) : exec (setReg b r) s = .next (s.setBitReg b r) := by
  fin_cases b <;> cases r <;> rfl

theorem exec_setMem (b : Fin 8) (s : State) : exec (setMem b) s = .next (s.setBitMem b) := by fin_cases b <;> rfl

/-- The CB row of a byte has the meaning that `prefixCB` gives it (30_encoding.md R131). -/
theorem exec_decodeCB (op2 : Byte) (s : State) : exec (decodeCB op2) s = .next (s.cb op2) := by
  unfold decodeCB State.cb
  generalize fieldX op2 = x
  generalize regOf (fieldZ op2) = r
  fin_cases x <;> cases r
  · exact exec_rotMem _ s
  · exact exec_rotReg _ _ s
  · exact exec_bitMem _ s
  · exact exec_bitReg _ _ s
  · exact exec_resMem _ s
  · exact exec_resReg _ _ s
  · exact exec_setMem _ s
  · exact exec_setReg _ _ s

/-- HALT writes one bit of the CPU: which one, IME and the pending set say (46_cpu_control.md R321). -/
theorem halt_eq (s : State) : s.halt = { s with cpu :=
    if s.cpu.ime = false ∧ s.pending ≠ 0 then { s.cpu with haltBug := true } else { s.cpu with halted := true } } := by
  unfold State.halt
  split <;> rfl

/-- Settles O29: the CB row stands under `exec_decodeCB`, HALT under `halt_eq`, STOP splits on its mode. -/
theorem cpuControl : Obligations.CpuControl := by
  intro s v
  refine ⟨rfl, rfl, rfl, ?_, ?_, ?_, s.cb v, rfl, exec_decodeCB v s⟩
  · exact congrArg Host.Outcome.next (halt_eq s)
  · intro hmode
    show Host.Outcome.next s.stop = _
    rw [State.stop, hmode]
  · intro hmode
    refine ⟨s.snapshot, ?_⟩
    show Host.Outcome.next s.stop = _
    rw [State.stop, hmode]
    rfl

end Sys2Proof.Machine
end

section
/-! PROOFS. The address map: which addresses each region holds, one rule per region for a read and a write, and what a store
to an ordinary cell changes (20_memory.md R61 to R99). -/

namespace Sys2Proof.Machine

open Sys2Proof

/-! ## The addresses of each region -/

/-- The address number `n` lies in the region, at the offset it names (20_memory.md R61); a work-RAM offset below 0x1E00
has an echo address too (R67). -/
def Region.Covers (n : Nat) : Region → Prop
  | .rom0 o => n = o ∧ o < 0x4000
  | .romX o => n = 0x4000 + o ∧ o < 0x4000
  | .vram o => n = 0x8000 + o ∧ o < 0x2000
  | .ext o => n = 0xA000 + o ∧ o < 0x2000
  | .wram o => (n = 0xC000 + o ∧ o < 0x2000) ∨ (n = 0xE000 + o ∧ o < 0x1E00)
  | .oam o => n = 0xFE00 + o ∧ o < 0xA0
  | .unmapped => 0xFEA0 ≤ n ∧ n < 0xFF00
  | .io o => n = 0xFF00 + o ∧ o < 0x80
  | .hram o => n = 0xFF80 + o ∧ o < 0x7F
  | .ie => n = 0xFFFF

theorem regionOf_covers (a : Word) : (regionOf a).Covers a.toNat := by
  have ha := a.isLt
  unfold regionOf
  dsimp only
  repeat' split
  all_goals (simp only [Region.Covers, true_and]; omega)

theorem regionOf_ext {a : Word} (h1 : 0xA000 ≤ a.toNat) (h2 : a.toNat < 0xC000) : regionOf a = .ext (a.toNat - 0xA000) := by
  unfold regionOf
  simp (disch := omega) only [if_neg, if_pos]

theorem regionOf_unmapped {a : Word} (h1 : 0xFEA0 ≤ a.toNat) (h2 : a.toNat < 0xFF00) : regionOf a = .unmapped := by
  unfold regionOf
  simp (disch := omega) only [if_neg, if_pos]

theorem regionOf_ioWindow {a : Word} (h1 : 0xFF00 ≤ a.toNat) (h2 : a.toNat < 0xFF80) :
    regionOf a = .io (a.toNat - 0xFF00) := by
  unfold regionOf
  simp (disch := omega) only [if_neg, if_pos]

/-- An echo address leads where the address 0x2000 below leads (20_memory.md R67). -/
theorem regionOf_echo {a : Word} (h1 : 0xE000 ≤ a.toNat) (h2 : a.toNat < 0xFE00) :
    regionOf a = regionOf (a - 0x2000#16) := by
  have hsub : (a - 0x2000#16).toNat = a.toNat - 0x2000 := by bv_omega
  have ha : regionOf a = .wram (a.toNat - 0xE000) := by
    unfold regionOf
    simp (disch := omega) only [if_neg, if_pos]
  rw [ha, regionOf_wram (by omega) (by omega), hsub]
  exact congrArg Region.wram (by omega)

/-! ## The canonical form of each memory -/

section
variable {s : State} (h : s.MemInv)
include h

theorem State.MemInv.eram : Cells.wf s.mem.eram = true := by
  obtain ⟨-, hm, -⟩ := (Mem.wf_iff _).1 h
  exact hm

theorem State.MemInv.vram : Cells.wf s.mem.vram = true := by
  obtain ⟨-, -, ⟨hm, -⟩, -⟩ := (Mem.wf_iff _).1 h
  exact hm

theorem State.MemInv.wram : Cells.wf s.mem.wram = true := by
  obtain ⟨-, -, -, ⟨hm, -⟩, -⟩ := (Mem.wf_iff _).1 h
  exact hm

theorem State.MemInv.oam : Cells.wf s.mem.oam = true := by
  obtain ⟨-, -, -, -, ⟨hm, -⟩, -⟩ := (Mem.wf_iff _).1 h
  exact hm

theorem State.MemInv.hram : Cells.wf s.mem.hram = true := by
  obtain ⟨-, -, -, -, -, ⟨hm, -⟩, -⟩ := (Mem.wf_iff _).1 h
  exact hm

end

/-! ## Reads and writes by region -/

/-- The bus tells addresses apart by their region alone. -/
theorem busRead_congr (s : State) {a b : Word} (h : regionOf a = regionOf b) : s.busRead a = s.busRead b := by
  unfold State.busRead
  rw [h]

theorem busWrite_congr (s : State) {a b : Word} (v : Byte) (h : regionOf a = regionOf b) :
    s.busWrite a v = s.busWrite b v := by
  unfold State.busWrite
  rw [h]

section
variable (s : State) {a : Word} {o : Nat} (v : Byte)

theorem busRead_vram (h : regionOf a = .vram o) : s.busRead a = Cells.read s.mem.vram o := by
  unfold State.busRead
  rw [h]

theorem busRead_ext (h : regionOf a = .ext o) : s.busRead a = s.extRead o := by
  unfold State.busRead
  rw [h]

theorem busRead_wram (h : regionOf a = .wram o) : s.busRead a = Cells.read s.mem.wram o := by
  unfold State.busRead
  rw [h]

theorem busRead_oam (h : regionOf a = .oam o) : s.busRead a = Cells.read s.mem.oam o := by
  unfold State.busRead
  rw [h]

theorem busRead_hram (h : regionOf a = .hram o) : s.busRead a = Cells.read s.mem.hram o := by
  unfold State.busRead
  rw [h]

theorem busWrite_vram (h : regionOf a = .vram o) :
    s.busWrite a v = { s with mem := { s.mem with vram := Cells.write s.mem.vram o v } } := by
  unfold State.busWrite
  rw [h]

theorem busWrite_ext (h : regionOf a = .ext o) : s.busWrite a v = s.extWrite o v := by
  unfold State.busWrite
  rw [h]

theorem busWrite_wram (h : regionOf a = .wram o) :
    s.busWrite a v = { s with mem := { s.mem with wram := Cells.write s.mem.wram o v } } := by
  unfold State.busWrite
  rw [h]

theorem busWrite_oam (h : regionOf a = .oam o) :
    s.busWrite a v = { s with mem := { s.mem with oam := Cells.write s.mem.oam o v } } := by
  unfold State.busWrite
  rw [h]

theorem busWrite_hram (h : regionOf a = .hram o) :
    s.busWrite a v = { s with mem := { s.mem with hram := Cells.write s.mem.hram o v } } := by
  unfold State.busWrite
  rw [h]

/-- The unmapped range reads 0xFF and takes no write (20_memory.md R69). -/
theorem bus_unmapped (h : regionOf a = .unmapped) : s.busRead a = 0xFF ∧ s.busWrite a v = s := by
  unfold State.busRead State.busWrite
  rw [h]
  exact ⟨rfl, rfl⟩

/-- So does an I/O address with no register (20_memory.md R76). -/
theorem bus_ioHole (h : regionOf a = .io o) (h' : ioRegAt o = none) : s.busRead a = 0xFF ∧ s.busWrite a v = s := by
  unfold State.busRead State.busWrite
  rw [h]
  simp [h']

end

/-! ## A transfer shuts the CPU out (20_memory.md R98, R99) -/

theorem blocked_iff (s : State) (a : Word) :
    s.blocked a = true ↔ s.dma.active = true ∧ ¬(0xFF80 ≤ a.toNat ∧ a.toNat ≤ 0xFFFE) := by
  have hbound : a.toNat < 0xFFFF ↔ a.toNat ≤ 0xFFFE := by omega
  unfold State.blocked inHram
  rw [Bool.and_eq_true, Bool.not_eq_true', Bool.eq_false_iff, Ne, Bool.and_eq_true, decide_eq_true_eq, decide_eq_true_eq,
    hbound]

/-- Settles O39: the two clauses are the two values of `blocked`. -/
theorem dmaShutsOutCpu : Obligations.DmaShutsOutCpu := by
  intro s a v
  rw [← blocked_iff]
  unfold State.cpuRead State.cpuWrite
  exact ⟨fun h => ⟨if_pos h, if_pos h⟩, fun h => ⟨if_neg h, if_neg h⟩⟩

/-! ## A store to an ordinary cell -/

/-- The memory behind an ordinary cell: VRAM, work RAM, OAM, high RAM, or external RAM where the window is open on it. -/
theorem storable_cases {s : State} {a : Word} (h : s.storable a) :
    (∃ o, regionOf a = .vram o) ∨ (∃ o k, regionOf a = .ext o ∧ extTarget s.cfg s.cart o = .ram k)
      ∨ (∃ o, regionOf a = .wram o) ∨ (∃ o, regionOf a = .oam o) ∨ (∃ o, regionOf a = .hram o) := by
  obtain ⟨hcell, hlow⟩ := h
  have hc := regionOf_covers a
  unfold State.hasCell at hcell
  generalize regionOf a = r at hcell hc ⊢
  cases r
  case rom0 | romX => simp only [Region.Covers] at hc; omega
  case ext o =>
    dsimp only at hcell
    split at hcell
    · next k hk => simp [hk]
    · cases hcell
    · cases hcell
  case unmapped | io | ie => cases hcell
  all_goals simp

/-- A window open on RAM shows one bank: the cell lies at the window offset inside it (20_memory.md R65). -/
theorem extTarget_ram_offset {p : Params} {c : Cart} {o k : Nat} (h : extTarget p c o = .ram k) (o' : Nat) :
    k = mapRamBank p c * 0x2000 + o ∧ extTarget p c o' = .ram (mapRamBank p c * 0x2000 + o') := by
  unfold extTarget at h ⊢
  repeat' split at h
  all_goals simp_all

/-- A window open on RAM after a store through it: the new byte at its own offset, every other offset as before. -/
theorem extRead_extWrite_ram {s : State} (hinv : s.MemInv) {o k : Nat}
    (hk : extTarget s.cfg s.cart o = .ram k) (v : Byte) (o' : Nat) :
    (s.extWrite o v).extRead o' = if o' = o then v else s.extRead o' := by
  obtain ⟨rfl, hk'⟩ := extTarget_ram_offset hk o'
  simp [State.extWrite, State.extRead, hk, hk', Cells.read_write hinv.eram]

/-- A byte of the address space after a store to an ordinary cell: the new byte at the addresses of that cell, every
other byte as before. -/
theorem busRead_busWrite {s : State} (hinv : s.MemInv) {a : Word} (h : s.storable a) (v : Byte) (b : Word) :
    (s.busWrite a v).busRead b = if regionOf b = regionOf a then v else s.busRead b := by
  unfold State.busWrite State.busRead
  obtain ⟨o, ha⟩ | ⟨o, k, ha, hk⟩ | ⟨o, ha⟩ | ⟨o, ha⟩ | ⟨o, ha⟩ := storable_cases h
  case inr.inl =>
    have hext := extRead_extWrite_ram hinv hk v
    rw [ha]
    cases regionOf b
    case ext o' => simpa using hext o'
    all_goals simp [State.extWrite, hk] <;> rfl
  all_goals
    rw [ha]
    cases regionOf b <;> simp [Cells.read_write, hinv.vram, hinv.wram, hinv.oam, hinv.hram] <;> rfl

/-- Addresses at or above VRAM that share a cell are 0x2000 apart, as an echo is (20_memory.md R67). -/
theorem eq_or_echo_of_regionOf_eq {s : State} {a b : Word} (ha : s.storable a) (h : regionOf b = regionOf a) :
    b = a ∨ b = a + 0x2000#16 ∨ b = a - 0x2000#16 := by
  have hca := regionOf_covers a
  have hcb := regionOf_covers b
  rw [h] at hcb
  obtain ⟨o, hr⟩ | ⟨o, k, hr, -⟩ | ⟨o, hr⟩ | ⟨o, hr⟩ | ⟨o, hr⟩ := storable_cases ha
  all_goals
    rw [hr] at hca hcb
    simp only [Region.Covers] at hca hcb
    bv_omega

/-- Settles O12: a store lands in one of five memories, and every byte is read by its region. -/
theorem storeChangesOneCell : Obligations.StoreChangesOneCell := by
  intro s a v hinv h
  refine ⟨by rw [busRead_busWrite hinv h, if_pos rfl], fun b hb => by rw [busRead_busWrite hinv h, if_neg hb],
    fun b => eq_or_echo_of_regionOf_eq h, busWrite_cpu s a v, ?_⟩
  obtain ⟨o, ha⟩ | ⟨o, k, ha, hk⟩ | ⟨o, ha⟩ | ⟨o, ha⟩ | ⟨o, ha⟩ := storable_cases h
  · rw [busWrite_vram s v ha]
  · simp [busWrite_ext s v ha, State.extWrite, hk]
  · rw [busWrite_wram s v ha]
  · rw [busWrite_oam s v ha]
  · rw [busWrite_hram s v ha]

/-! ## Time and the bus (20_memory.md R100) -/

/-- Outside the I/O window, and outside OAM while a transfer runs, time changes no byte that the bus shows. -/
theorem advance_busRead (n : Nat) (s : State) {a : Word} (hio : ¬(0xFF00 ≤ a.toNat ∧ a.toNat < 0xFF80))
    (hoam : inOam a → s.dma.active = false) : (s.advance n).busRead a = s.busRead a := by
  have hc := regionOf_covers a
  unfold inOam at hoam
  unfold State.busRead
  generalize regionOf a = r at hc
  cases r
  case oam o =>
    simp only [Region.Covers] at hc
    have hidle := advance_idleDma n s (hoam (by omega))
    simp only [hidle.2]
  case io o =>
    simp only [Region.Covers] at hc
    omega
  all_goals simp [State.extRead]

/-- Settles O13: each part is a law of `advance`, the bytes by region. -/
theorem timeChangesOnlyDevices : Obligations.TimeChangesOnlyDevices := by
  intro m n s
  exact ⟨rfl, rfl, (advance_advance m n s).symm, advance_t n s, advance_cpu n s, advance_serial n s, advance_joypad n s,
    advance_cart n s, advance_cfg n s, advance_ie n s, advance_mem n s, fun h => (advance_idleDma n s h).symm,
    fun _ => advance_busRead n s⟩

end Sys2Proof.Machine
end

section
/-! PROOFS. The registers outside the APU as the bus reads and writes them, and the whole bus map (20_memory.md R61 to R76). -/

namespace Sys2Proof.Machine

open Sys2Proof

/-! ## What a register reads as a number -/

theorem Serial.readControl_eq (p : Serial) :
    p.readControl = BitVec.ofNat 8 (0x7E + 128 * p.scStart.toNat + p.scClock.toNat) := by
  unfold Serial.readControl
  cases p.scStart <;> cases p.scClock <;> rfl

theorem Timer.readDiv_eq (tm : Timer) : tm.readDiv = BitVec.ofNat 8 (tm.divcnt.toNat / 256) := by
  simp [Timer.readDiv, BitVec.extractLsb', Nat.shiftRight_eq_div_pow]

/-- The unused high bits of a register of three or of five bits read as ones (20_memory.md R76). -/
theorem ones_append_eq : (∀ x : BitVec 3, 0b11111#5 ++ x = BitVec.ofNat 8 (0xF8 + x.toNat))
    ∧ ∀ x : BitVec 5, 0b111#3 ++ x = BitVec.ofNat 8 (0xE0 + x.toNat) := by decide

/-- STAT as the sum of its fields: the enable bits, the comparison, the mode (62_ppu.md R427). -/
theorem statFields_eq : ∀ (e : BitVec 4) (same on : Bool) (mode : BitVec 2),
    1#1 ++ e ++ BitVec.ofBool same ++ (if on then mode else 0#2)
      = BitVec.ofNat 8 (0x80 + 8 * e.toNat + (if same then 4 else 0) + (if on then mode.toNat else 0)) := by decide

theorem Ppu.readStat_eq (p : Ppu) : p.readStat = BitVec.ofNat 8 (0x80 + 8 * p.statEnable.toNat
    + (if p.ly = p.lyc.toNat then 4 else 0) + (if p.lcdc.getLsbD 7 then p.mode.code.toNat else 0)) := by
  unfold Ppu.readStat
  rw [statFields_eq]
  simp [Ppu.lcdOn]

/-- The low `n` bits of a byte, which a register of `n` bits stores. -/
theorem setWidth_eq_ofNat_mod (n : Nat) (v : Byte) : v.setWidth n = BitVec.ofNat n (v.toNat % 2 ^ n) := by
  apply BitVec.eq_of_toNat_eq
  simp

/-! ## The bus map -/

/-- The I/O addresses below 0xFF4C that have no register (20_memory.md R76). -/
def ioHoles : List Word :=
  [0xFF03, 0xFF08, 0xFF09, 0xFF0A, 0xFF0B, 0xFF0C, 0xFF0D, 0xFF0E, 0xFF15, 0xFF1F, 0xFF27, 0xFF28, 0xFF29, 0xFF2A,
    0xFF2B, 0xFF2C, 0xFF2D, 0xFF2E, 0xFF2F]

/-- Those, and every I/O address from 0xFF4C on, name no register. -/
theorem ioRegAt_eq_none {a : Word} (h : a ∈ ioHoles ∨ (0xFF4C ≤ a.toNat ∧ a.toNat ≤ 0xFF7F)) :
    regionOf a = .io (a.toNat - 0xFF00) ∧ ioRegAt (a.toNat - 0xFF00) = none := by
  have hlist : ioHoles.all (fun a =>
      decide (0xFF00 ≤ a.toNat ∧ a.toNat < 0xFF80 ∧ ioRegAt (a.toNat - 0xFF00) = none)) = true := by decide
  have hrange : ∀ o < 0x80, 0x4C ≤ o → ioRegAt o = none := by decide
  rcases h with h | ⟨h1, h2⟩
  · obtain ⟨h1, h2, hnone⟩ := of_decide_eq_true (List.all_eq_true.1 hlist a h)
    exact ⟨regionOf_ioWindow h1 h2, hnone⟩
  · exact ⟨regionOf_ioWindow (by omega) (by omega), hrange _ (by omega) (by omega)⟩

/-- Settles O38: each range is one region, each register one row of the I/O map. -/
theorem busMap : Obligations.BusMap := by
  intro s a v
  refine ⟨?_, ?_, ?_, ?_, ?_, ?_, ?_, ?_, ?_, rfl, ?_, rfl, rfl, rfl, rfl, rfl, rfl, rfl, rfl, rfl, rfl⟩
  · intro h1 h2
    have ha := regionOf_vram h1 h2
    exact ⟨busRead_vram s ha, _, busWrite_vram s v ha, fun hinv _ => Cells.read_write hinv.vram⟩
  · intro h1 h2
    have ha := regionOf_wram h1 h2
    exact ⟨busRead_wram s ha, _, busWrite_wram s v ha, fun hinv _ => Cells.read_write hinv.wram⟩
  · intro h1 h2
    have ha := regionOf_oam h1 h2
    exact ⟨busRead_oam s ha, _, busWrite_oam s v ha, fun hinv _ => Cells.read_write hinv.oam⟩
  · intro h1 h2
    have ha := regionOf_hram h1 h2
    exact ⟨busRead_hram s ha, _, busWrite_hram s v ha, fun hinv _ => Cells.read_write hinv.hram⟩
  · intro h1 h2
    exact ⟨busRead_congr s (regionOf_echo h1 h2), busWrite_congr s v (regionOf_echo h1 h2)⟩
  · intro h1 h2
    exact bus_unmapped s v (regionOf_unmapped h1 h2)
  · intro h
    obtain ⟨hr, ho⟩ := ioRegAt_eq_none h
    exact bus_ioHole s v hr ho
  · intro h
    rw [busWrite_rom s v h]
  · simp only [List.forall_mem_cons]
    refine ⟨rfl, s.serial.readControl_eq, s.timer.readDiv_eq, rfl, rfl, ones_append_eq.1 s.timer.tac,
      ones_append_eq.2 s.irq.flags, rfl, ?_, rfl, rfl, rfl, rfl, rfl, rfl, rfl, rfl, rfl, rfl, rfl,
      fun _ h => absurd h List.not_mem_nil⟩
    refine s.ppu.readStat_eq.trans ?_
    cases s.ppu.mode <;> rfl
  · exact congrArg (fun f => { s with irq := { s.irq with flags := f } }) (setWidth_eq_ofNat_mod 5 v)

end Sys2Proof.Machine
end

section
/-! PROOFS. The cartridge: the ROM windows and the bank controllers' ports, the external-RAM window, the clock registers
(20_memory.md R62, R63, R65, R84 to R91). -/

namespace Sys2Proof.Machine

open Sys2Proof

/-! ## ROM and the ports -/

theorem busRead_rom0 (s : State) {a : Word} (h : a.toNat < 0x4000) : s.busRead a = Cells.read s.mem.rom a.toNat := by
  have hr : regionOf a = .rom0 a.toNat := by rw [regionOf_rom (by omega), if_pos h]
  unfold State.busRead
  rw [hr]

theorem busRead_romX (s : State) {a : Word} (h1 : 0x4000 ≤ a.toNat) (h2 : a.toNat < 0x8000) :
    s.busRead a = Cells.read s.mem.rom (mapRomBank s.cfg s.cart * 0x4000 + (a.toNat - 0x4000)) := by
  have hr : regionOf a = .romX (a.toNat - 0x4000) := by rw [regionOf_rom h2, if_neg (by omega)]
  unfold State.busRead
  rw [hr]

/-- The mapped bank exists: kind None maps bank 1, and the other kinds take the bank number modulo the
bank count (20_memory.md R86 to R91). -/
theorem mapRomBank_lt (p : Params) (c : Cart) (h : 2 ≤ p.romBanks) : mapRomBank p c < p.romBanks := by
  unfold mapRomBank
  split
  · omega
  all_goals exact Nat.mod_lt _ (by omega)

/-- A port write is what the controller makes of it. -/
theorem busWrite_port (s : State) {a : Word} {v : Byte} {d : Cart} (h : a.toNat ≤ 0x7FFF)
    (hd : s.cart.writePort s.cfg a.toNat v = d) : s.busWrite a v = { s with cart := d } := by
  rw [busWrite_rom s v (by omega), hd]

/-- A bank register that skips zero stores the low bits of the byte, or one (20_memory.md R88, R89). -/
theorem lowBits_or_one (n : Nat) (v : Byte) : (if v.setWidth n = 0#n then 1#n else v.setWidth n)
    = if v.toNat % 2 ^ n = 0 then 1 else BitVec.ofNat n (v.toNat % 2 ^ n) := by
  have hzero : v.setWidth n = 0#n ↔ v.toNat % 2 ^ n = 0 := by
    rw [← BitVec.toNat_inj]
    simp
  simp only [hzero]
  rw [setWidth_eq_ofNat_mod]
  rfl

/-- The two ports of MBC5's nine-bit bank register: its low byte and its top bit (20_memory.md R91). -/
theorem romBank9_low (x : BitVec 9) (v : Byte) :
    x.extractLsb' 8 1 ++ v = BitVec.ofNat 9 (x.toNat / 256 * 256 + v.toNat) := by
  have := x.isLt
  have := v.isLt
  apply BitVec.eq_of_toNat_eq
  rw [BitVec.toNat_append, ← Nat.shiftLeft_add_eq_or_of_lt v.isLt, Nat.shiftLeft_eq]
  simp [Nat.shiftRight_eq_div_pow]
  omega

theorem romBank9_high (x : BitVec 9) (v : Byte) :
    v.extractLsb' 0 1 ++ x.extractLsb' 0 8 = BitVec.ofNat 9 (v.toNat % 2 * 256 + x.toNat % 256) := by
  apply BitVec.eq_of_toNat_eq
  rw [BitVec.toNat_append, ← Nat.shiftLeft_add_eq_or_of_lt (x.extractLsb' 0 8).isLt, Nat.shiftLeft_eq]
  simp
  omega

/-- Settles O56: a port is a row of its controller's write. -/
theorem bankMapping : Obligations.BankMapping := by
  intro s a v
  refine ⟨mapRomBank_lt s.cfg s.cart, busRead_rom0 s, busRead_romX s, fun hk => ⟨?_, ?_⟩, fun hk => ⟨?_, ?_, ?_, ?_⟩,
    fun hk => ⟨?_, ?_, ?_⟩, fun hk => ⟨?_, ?_, ?_, ?_, ?_⟩⟩
  case refine_1 | refine_3 | refine_7 | refine_10 => simp only [mapRomBank, hk]
  all_goals
    intro h1 h2
    refine busWrite_port s (by omega) ?_
    simp (disch := omega) only [Cart.writePort, hk, Cart.writeMbc1, Cart.writeMbc3, Cart.writeMbc5, if_neg, if_pos]
  -- The ports whose register holds bits of the byte, in the order of the kinds: those bits as a number.
  · rw [lowBits_or_one]; rfl
  · rw [setWidth_eq_ofNat_mod]; rfl
  · rw [lowBits_or_one]; rfl
  · rw [setWidth_eq_ofNat_mod]; rfl
  · rw [romBank9_low]
  · rw [romBank9_high]
  · rw [setWidth_eq_ofNat_mod]; rfl

/-! ## The target of the external-RAM window -/

/-- The window leads somewhere: RAM is enabled and the cartridge has some (20_memory.md R65, R87). -/
def State.ramOpen (s : State) : Prop := s.cart.ramEnable = true ∧ s.cfg.ramBanks ≠ 0

theorem extTarget_of_closed {s : State} (h : ¬s.ramOpen ∨ s.cfg.cartKind = .none) (o : Nat) :
    extTarget s.cfg s.cart o = .closed := by
  unfold extTarget
  split
  · next hopen =>
    have hk : s.cfg.cartKind = .none := h.resolve_left (not_not.2 (by simpa [State.ramOpen] using hopen))
    rw [hk]
  · rfl

section
variable {s : State} (h : s.ramOpen) (o : Nat)
include h

/-- Open on RAM: MBC1, MBC5, and MBC3 where it selects a bank (20_memory.md R88, R90, R91). -/
theorem extTarget_of_bank {bank : Nat} (hbank : mapRamBank s.cfg s.cart = bank)
    (hk : s.cfg.cartKind = .mbc1 ∨ s.cfg.cartKind = .mbc5 ∨ (s.cfg.cartKind = .mbc3 ∧ s.cart.mbc3Sel.toNat ≤ 3)) :
    extTarget s.cfg s.cart o = .ram (bank * 0x2000 + o) := by
  subst hbank
  unfold extTarget
  rw [if_pos (by simpa [State.ramOpen] using h)]
  rcases hk with hk | hk | ⟨hk, hsel⟩
  · rw [hk]
  · rw [hk]
  · rw [hk]
    exact if_pos hsel

/-- Open on a clock register (20_memory.md R90). -/
theorem extTarget_of_clock (hk : s.cfg.cartKind = .mbc3) (h1 : 8 ≤ s.cart.mbc3Sel.toNat) (h2 : s.cart.mbc3Sel.toNat ≤ 12) :
    extTarget s.cfg s.cart o = .clock (s.cart.mbc3Sel.toNat - 8) := by
  unfold extTarget
  rw [if_pos (by simpa [State.ramOpen] using h), hk]
  dsimp only
  rw [if_neg (by omega), if_pos ⟨h1, h2⟩]

/-- A select value that names neither a bank nor a clock register (20_memory.md R90). -/
theorem extTarget_of_noRegister (hk : s.cfg.cartKind = .mbc3)
    (hsel : (4 ≤ s.cart.mbc3Sel.toNat ∧ s.cart.mbc3Sel.toNat ≤ 7) ∨ 13 ≤ s.cart.mbc3Sel.toNat) :
    extTarget s.cfg s.cart o = .closed := by
  unfold extTarget
  rw [if_pos (by simpa [State.ramOpen] using h), hk]
  dsimp only
  rw [if_neg (by omega), if_neg (by omega)]

end

/-- The five clock registers in the order of R90. -/
def Rtc.registers (r : Rtc) : List Byte := [r.seconds, r.minutes, r.hours, r.dayLow, r.dayHigh]

theorem rtcRead_eq (r : Rtc) {i : Nat} (h : i ≤ 4) : rtcRead r i = (Rtc.registers r).getD i 0 := by
  interval_cases i <;> rfl

theorem registers_rtcWrite (r : Rtc) {i : Nat} (h : i ≤ 4) (v : Byte) :
    Rtc.registers (rtcWrite r i v) = (Rtc.registers r).set i v := by
  interval_cases i <;> rfl

/-! ## The external-RAM window on the bus -/

section
variable {s : State} {a : Word} (ha : regionOf a = .ext (a.toNat - 0xA000)) (v : Byte)
include ha

theorem window_closed (h : extTarget s.cfg s.cart (a.toNat - 0xA000) = .closed) :
    s.busRead a = 0xFF ∧ s.busWrite a v = s := by
  rw [busRead_ext s ha, busWrite_ext s v ha]
  simp [State.extRead, State.extWrite, h]

/-- Open on RAM, the window shows the cell and a store changes that cell alone. -/
theorem window_ram (hinv : s.MemInv) {k : Nat} (h : extTarget s.cfg s.cart (a.toNat - 0xA000) = .ram k) :
    s.busRead a = Cells.read s.mem.eram k
      ∧ s.busWrite a v = { s with mem := { s.mem with eram := (s.busWrite a v).mem.eram } }
      ∧ (s.busWrite a v).busRead a = v
      ∧ ∀ j, j ≠ k → Cells.read (s.busWrite a v).mem.eram j = Cells.read s.mem.eram j := by
  have hread := extRead_extWrite_ram hinv h v (a.toNat - 0xA000)
  rw [busWrite_ext s v ha, busRead_ext s ha, busRead_ext _ ha, hread, if_pos rfl]
  simp +contextual [State.extRead, State.extWrite, h, Cells.read_write hinv.eram]

/-- Open on a clock register, the window shows the latched one. -/
theorem busRead_clock {i : Nat} (hi : i ≤ 4) (h : extTarget s.cfg s.cart (a.toNat - 0xA000) = .clock i) :
    s.busRead a = (Rtc.registers s.cart.rtcLatched).getD i 0 := by
  rw [busRead_ext s ha, ← rtcRead_eq _ hi]
  simp [State.extRead, h]

/-- A store then changes the live one. -/
theorem busWrite_clock {i : Nat} (hi : i ≤ 4) (h : extTarget s.cfg s.cart (a.toNat - 0xA000) = .clock i) :
    ∃ live, s.busWrite a v = { s with cart := { s.cart with rtcLive := live } }
      ∧ Rtc.registers live = (Rtc.registers s.cart.rtcLive).set i v := by
  rw [busWrite_ext s v ha]
  exact ⟨_, by simp [State.extWrite, h], registers_rtcWrite _ hi v⟩

end

/-! ## The enable port and the latch port -/

/-- The enable port, the same for the three kinds (20_memory.md R87). -/
theorem writePort_enable {p : Params} (c : Cart) {port : Nat} (v : Byte) (hk : p.cartKind ≠ .none) (h : port < 0x2000) :
    c.writePort p port v = { c with ramEnable := decide (v.toNat % 16 = 0xA) } := by
  have hlow : v.setWidth 4 = 0xA#4 ↔ v.toNat % 16 = 0xA := by
    rw [← BitVec.toNat_inj]
    simp
  have hcart : c.writeRamEnable v = { c with ramEnable := decide (v.toNat % 16 = 0xA) } := by
    simp [Cart.writeRamEnable, hlow]
  unfold Cart.writePort
  split
  · contradiction
  all_goals exact (if_pos h).trans hcart

/-- The latch port: 0x01 after 0x00 takes the live registers (20_memory.md R89). -/
theorem busWrite_latch (s : State) {b : Word} (v : Byte) (h1 : 0x6000 ≤ b.toNat) (h2 : b.toNat < 0x8000)
    (hk : s.cfg.cartKind = .mbc3) : s.busWrite b v = { s with cart := { s.cart with
      rtcLatched := if s.cart.rtcLatchState = 0x00 ∧ v = 0x01 then s.cart.rtcLive else s.cart.rtcLatched
      rtcLatchState := v } } := by
  refine busWrite_port s (by omega) ?_
  simp (disch := omega) only [Cart.writePort, hk, Cart.writeMbc3, if_neg]
  rfl

/-- 0x00 then 0x01, each at any address of the port. -/
theorem busWrite_latch_twice (s : State) {b b' : Word} (h1 : 0x6000 ≤ b.toNat) (h2 : b.toNat < 0x8000)
    (h1' : 0x6000 ≤ b'.toNat) (h2' : b'.toNat < 0x8000) (hk : s.cfg.cartKind = .mbc3) :
    (s.busWrite b 0x00).busWrite b' 0x01
      = { s with cart := { s.cart with rtcLatched := s.cart.rtcLive, rtcLatchState := 0x01 } } := by
  rw [busWrite_latch s 0x00 h1 h2 hk, busWrite_latch]
  · rfl
  · exact h1'
  · exact h2'
  · exact hk

/-- Settles O57: the target of the window decides every clause, and the two ports are rows of the port write. -/
theorem externalRamWindow : Obligations.ExternalRamWindow := by
  intro s a b b' v hinv h1 h2
  have ha := regionOf_ext h1 h2
  refine ⟨fun h => window_closed ha v (extTarget_of_closed h _), ?_, ?_, ?_, ?_, ?_, ?_, ?_⟩
  · intro hk hb
    exact busWrite_port s (by omega) (writePort_enable _ v hk hb)
  · intro hopen hk
    have hbank : mapRamBank s.cfg s.cart = (if s.cart.mbc1Mode then s.cart.mbc1Hi2.toNat else 0) % s.cfg.ramBanks := by
      simp only [mapRamBank, hk]
    exact window_ram ha v hinv (extTarget_of_bank hopen _ hbank (.inl hk))
  · intro hopen hk
    have hbank : mapRamBank s.cfg s.cart = s.cart.ramBank4.toNat % s.cfg.ramBanks := by simp only [mapRamBank, hk]
    exact window_ram ha v hinv (extTarget_of_bank hopen _ hbank (.inr (.inl hk)))
  · intro hopen hk hsel
    have hlow : (s.cart.mbc3Sel.extractLsb' 0 2).toNat = s.cart.mbc3Sel.toNat := by
      simp
      omega
    have hbank : mapRamBank s.cfg s.cart = s.cart.mbc3Sel.toNat % s.cfg.ramBanks := by simp only [mapRamBank, hk, hlow]
    exact window_ram ha v hinv (extTarget_of_bank hopen _ hbank (.inr (.inr ⟨hk, hsel⟩)))
  · intro hopen hk hsel
    exact window_closed ha v (extTarget_of_noRegister hopen _ hk hsel)
  · intro hopen hk h8 h12
    have htarget := extTarget_of_clock hopen (a.toNat - 0xA000) hk h8 h12
    exact ⟨busRead_clock ha (by omega) htarget, busWrite_clock ha v (by omega) htarget⟩
  · intro hk hb1 hb2
    refine ⟨busWrite_latch s v hb1 hb2 hk, fun hb1' hb2' hopen h8 h12 => ?_⟩
    rw [busWrite_latch_twice s hb1 hb2 hb1' hb2' hk]
    exact busRead_clock ha (by omega) (extTarget_of_clock hopen _ hk h8 h12)

end Sys2Proof.Machine
end

section
/-! PROOFS. How long an instruction and a step take, and what no step changes (60_exceptions.md R340 to R344). -/

namespace Sys2Proof.Machine

open Sys2Proof

/-! ## The time of each shared operation -/

section
variable (s : State)

@[simp] theorem alu_t (o : Alu) (v : Byte) : (s.alu o v).t = s.t := rfl
@[simp] theorem modifyAtHl_t (f : Byte → Flags → Byte × Flags) : (s.modifyAtHl f).t = s.t + 8 := by simp [State.modifyAtHl]
@[simp] theorem jump_t (a : Word) (k : Nat) : (s.jump a k).t = s.t + k := by simp [State.jump]
@[simp] theorem call_t (a : Word) : (s.call a).t = s.t + 12 := by simp [State.call]
@[simp] theorem pop16_t : s.pop16.2.t = s.t + 8 := by simp [pop16_eq]
@[simp] theorem ret_t (k : Nat) : (s.ret k).t = s.t + (8 + k) := by simp [State.ret, Nat.add_assoc]
@[simp] theorem returnFromInterrupt_t : s.returnFromInterrupt.t = s.t + 12 := by simp [returnFromInterrupt_eq]
@[simp] theorem loadReg_t (r : Reg) (a : Word) : (s.loadReg r a).t = s.t + 4 := by simp [State.loadReg]
@[simp] theorem storeReg_t (r : Reg) (a : Word) : (s.storeReg r a).t = s.t + 4 := by simp [State.storeReg]
@[simp] theorem pushPair_t (p : StackPair) : (s.pushPair p).t = s.t + 12 := by simp [State.pushPair]
@[simp] theorem popPair_t (p : StackPair) : (s.popPair p).t = s.t + 8 := pop16_t s
@[simp] theorem aluMem_t (o : Alu) : (s.aluMem o).t = s.t + 4 := by simp [State.aluMem]
@[simp] theorem incReg_t (r : Reg) : (s.incReg r).t = s.t := by simp [State.incReg]
@[simp] theorem decReg_t (r : Reg) : (s.decReg r).t = s.t := by simp [State.decReg]
@[simp] theorem addHl_t (p : Pair) : (s.addHl p).t = s.t + 4 := by simp [State.addHl]
@[simp] theorem incPair_t (p : Pair) : (s.incPair p).t = s.t + 4 := by simp [State.incPair]
@[simp] theorem decPair_t (p : Pair) : (s.decPair p).t = s.t + 4 := by simp [State.decPair]
@[simp] theorem rotA_t (o : Rot) : (s.rotA o).t = s.t := by simp [State.rotA]
@[simp] theorem rotReg_t (o : Rot) (r : Reg) : (s.rotReg o r).t = s.t := by simp [State.rotReg]
@[simp] theorem rotMem_t (o : Rot) : (s.rotMem o).t = s.t + 8 := by simp [State.rotMem]
@[simp] theorem bitReg_t (b : Fin 8) (r : Reg) : (s.bitReg b r).t = s.t := by simp [State.bitReg]
@[simp] theorem bitMem_t (b : Fin 8) : (s.bitMem b).t = s.t + 4 := by simp [State.bitMem]
@[simp] theorem resReg_t (b : Fin 8) (r : Reg) : (s.resReg b r).t = s.t := by simp [State.resReg]
@[simp] theorem resMem_t (b : Fin 8) : (s.resMem b).t = s.t + 8 := by simp [State.resMem]
@[simp] theorem setBitReg_t (b : Fin 8) (r : Reg) : (s.setBitReg b r).t = s.t := by simp [State.setBitReg]
@[simp] theorem setBitMem_t (b : Fin 8) : (s.setBitMem b).t = s.t + 8 := by simp [State.setBitMem]
@[simp] theorem jr_t (e : Byte) : (s.jr e).t = s.t + 4 := by simp [State.jr]
@[simp] theorem raiseIllegal_t (op : Byte) : (s.raiseIllegal op).t = s.t := rfl

@[simp] theorem halt_t : s.halt.t = s.t := by rw [halt_eq]

@[simp] theorem stop_t : s.stop.t = s.t := by
  unfold State.stop
  split <;> rfl

end

/-! ## The time of an instruction -/

/-- `t` comes at most `n` times 4 T-cycles after `s`, and a whole number of times. -/
def State.Takes (s : State) (n : Nat) (t : State) : Prop := ∃ k ≤ n, t.t = s.t + 4 * k

theorem takes_iff {s t : State} {n : Nat} : s.Takes n t ↔ s.t ≤ t.t ∧ t.t ≤ s.t + 4 * n ∧ 4 ∣ t.t - s.t := by
  constructor
  · rintro ⟨k, hk, ht⟩
    omega
  · rintro ⟨h1, h2, k, hk⟩
    exact ⟨k, by omega, by omega⟩

theorem State.Takes.ite {s t u : State} {n : Nat} {p : Prop} [Decidable p] (ht : s.Takes n t) (hu : s.Takes n u) :
    s.Takes n (if p then t else u) := by
  split <;> assumption

theorem takes_cb (s : State) (op2 : Byte) : s.Takes 2 (s.cb op2) := by
  unfold State.cb
  split <;> simp [takes_iff]

/-- The most an instruction takes after its fetch, in units of 4 T-cycles: four for a conditional return (R309), three
for any other. -/
def costBound : Instr → Nat
  | .ret_nz | .ret_z | .ret_nc | .ret_c => 4
  | _ => 3

/-- An instruction's own T-cycles (R344). -/
theorem exec_takes (i : Instr) (s : State) : ∃ t, exec i s = .next t ∧ s.Takes (costBound i) t := by
  cases i
  case ret_nz | ret_z | ret_nc | ret_c | jp_nz_a16 | jp_z_a16 | jp_nc_a16 | jp_c_a16 | jr_nz_e8 | jr_z_e8 | jr_nc_e8 | jr_c_e8
      | call_nz_a16 | call_z_a16 | call_nc_a16 | call_c_a16 =>
    exact ⟨_, rfl, .ite (by simp [takes_iff, costBound]) (by simp [takes_iff, costBound])⟩
  case prefixCB op2 =>
    obtain ⟨k, hk, ht⟩ := takes_cb s op2
    exact ⟨_, rfl, k, Nat.le_succ_of_le hk, ht⟩
  all_goals exact ⟨_, rfl, by simp [takes_iff, costBound, Nat.add_assoc]⟩

theorem costBound_le (i : Instr) : costBound i ≤ 4 := by
  unfold costBound
  split <;> omega

theorem costBound_decodeCB : ∀ op2 : Byte, costBound (decodeCB op2) = 3 := by decide

/-- A conditional return is one byte long: an opcode with an operand or a second byte begins another instruction. -/
theorem costBound_of_length {op : Byte} (h : instrLength op ≠ 1) (b1 b2 : Byte) : costBound (decodeBytes op b1 b2) = 3 := by
  have hop : op ∈ threeByteOpcodes ++ twoByteOpcodes := by
    rw [List.mem_append]
    by_contra hnot
    rw [not_or] at hnot
    exact h (by rw [instrLength, if_neg hnot.1, if_neg hnot.2])
  fin_cases hop
  -- 0xCB stands last in the two lists, and its row is that of its second byte.
  on_goal -1 => exact costBound_decodeCB b1
  all_goals rfl

/-- Fetch and execution together take at most 24 T-cycles. -/
theorem length_add_costBound_le (op b1 b2 : Byte) : instrLength op + costBound (decodeBytes op b1 b2) ≤ 6 := by
  have hcost := costBound_le (decodeBytes op b1 b2)
  rcases instrLength_cases op with h | h | h
  · omega
  · rw [costBound_of_length (by omega), h]
    omega
  · rw [costBound_of_length (by omega), h]

/-! ## What nothing changes -/

/-- `t` has the ROM image, the parameters and the host's buttons of `s`. -/
structure State.KeepsHost (s t : State) : Prop where
  rom     : t.mem.rom = s.mem.rom
  cfg     : t.cfg = s.cfg
  buttons : t.joypad.buttons = s.joypad.buttons

theorem State.KeepsHost.trans {s t u : State} (h : s.KeepsHost t) (k : t.KeepsHost u) : s.KeepsHost u :=
  ⟨k.rom.trans h.rom, k.cfg.trans h.cfg, k.buttons.trans h.buttons⟩

theorem keepsHost_advance (n : Nat) (s : State) : s.KeepsHost (s.advance n) :=
  ⟨advance_rom n s, advance_cfg n s, by rw [advance_joypad]⟩

theorem Quiet.keepsHost {s t : State} (h : Quiet s t) : s.KeepsHost t := by
  induction h with
  | refl => exact ⟨rfl, rfl, rfl⟩
  | regs _ _ ih => exact ⟨ih.rom, ih.cfg, ih.buttons⟩
  | @advance u _ n ih => exact ih.trans (keepsHost_advance n u)
  | @cpuWrite u _ a v ih =>
    obtain ⟨-, hcfg, hrom, hbuttons⟩ := cpuWrite_keeps u a v
    exact ih.trans ⟨hrom, hcfg, hbuttons⟩

theorem Effect.keepsHost {s t : State} {i : Instr} (h : Effect s i t) : s.KeepsHost t := by
  cases h with
  | quiet h => exact h.keepsHost
  | di | ei | illegal => exact ⟨rfl, rfl, rfl⟩
  | reti =>
    rw [returnFromInterrupt_eq]
    obtain ⟨hrom, hcfg, hbuttons⟩ := keepsHost_advance 12 s
    exact ⟨hrom, hcfg, hbuttons⟩
  | halt => rw [halt_eq]; exact ⟨rfl, rfl, rfl⟩
  | stop v =>
    unfold State.stop
    split <;> exact ⟨rfl, rfl, rfl⟩

/-! ## The step -/

theorem transferLatch_t (s : State) (was : Bool) : (s.transferLatch was).t = s.t := by
  unfold State.transferLatch
  split <;> rfl

theorem transferLatch_keepsHost (s : State) (was : Bool) : s.KeepsHost (s.transferLatch was) := by
  unfold State.transferLatch
  split <;> exact ⟨rfl, rfl, rfl⟩

theorem wake_t (s : State) : s.wake.t = s.t := by
  unfold State.wake
  split <;> rfl

theorem wake_keepsHost (s : State) : s.KeepsHost s.wake := by
  unfold State.wake
  split <;> exact ⟨rfl, rfl, rfl⟩

theorem fetch_keepsHost (s : State) : s.KeepsHost s.fetch.2 := by
  rw [fetch_eq]
  obtain ⟨hrom, hcfg, hbuttons⟩ := keepsHost_advance (4 * instrLength ((s.advance 4).cpuRead s.cpu.pc)) s
  exact ⟨hrom, hcfg, hbuttons⟩

theorem service_keepsHost (s : State) (i : Source) : s.KeepsHost (s.service i) := by
  let u : State := { s with cpu.ime := false, cpu.haltBug := false, irq := s.irq.acknowledge i }
  have hu : s.KeepsHost u := ⟨rfl, rfl, rfl⟩
  exact hu.trans (((Quiet.refl.push16 _).setPc _).advance 12).keepsHost

theorem fetch_t (s : State) : s.fetch.2.t = s.t + 4 * instrLength ((s.advance 4).cpuRead s.cpu.pc) := by
  rw [fetch_eq]
  exact advance_t _ s

theorem fetch_costBound (s : State) : instrLength ((s.advance 4).cpuRead s.cpu.pc) + costBound s.fetch.1 ≤ 6 := by
  rw [fetch_eq]
  exact length_add_costBound_le _ _ _

/-- A step to `t` takes 4 to 24 T-cycles in units of 4, and the host's part stays. -/
structure State.StepsTo (s t : State) : Prop where
  time  : ∃ k, 1 ≤ k ∧ k ≤ 6 ∧ t.t = s.t + 4 * k
  keeps : s.KeepsHost t

theorem instructionStep_of_exec {s u : State} (h : exec s.fetch.1 s.fetch.2 = .next u) :
    instructionStep s = .next (u.transferLatch s.cpu.imePending) := by
  unfold instructionStep
  rw [h]

/-- An instruction step: the fetch pays for the bytes, the meaning for the rest. -/
theorem instructionStep_stepsTo (s : State) : ∃ t, instructionStep s = .next t ∧ s.StepsTo t := by
  obtain ⟨u, hu, k, hk, ht⟩ := exec_takes s.fetch.1 s.fetch.2
  obtain ⟨u', hu', heffect⟩ := exec_effect s.fetch.1 s.fetch.2
  obtain rfl : u' = u := Host.Outcome.next.inj (hu'.symm.trans hu)
  have hlen := instrLength_cases ((s.advance 4).cpuRead s.cpu.pc)
  have hbound := fetch_costBound s
  have hfetch := fetch_t s
  refine ⟨u'.transferLatch s.cpu.imePending, instructionStep_of_exec hu,
    ⟨instrLength ((s.advance 4).cpuRead s.cpu.pc) + k, by omega, by omega, ?_⟩,
    (fetch_keepsHost s).trans (heffect.keepsHost.trans (transferLatch_keepsHost _ _))⟩
  rw [transferLatch_t, ht, hfetch]
  omega

theorem serviceOrRun_stepsTo (s : State) : ∃ t, serviceOrRun s = .next t ∧ s.StepsTo t := by
  unfold serviceOrRun
  split
  · next i _ => exact ⟨_, rfl, ⟨5, by omega, by omega, service_t s i⟩, service_keepsHost s i⟩
  · split
    · exact ⟨_, rfl, ⟨1, by omega, by omega, advance_t 4 s⟩, keepsHost_advance 4 s⟩
    · exact instructionStep_stepsTo s

/-- Settles O31: after the wake a live machine services, idles or runs an instruction. -/
theorem stepExistsAndTakesTime : Obligations.StepExistsAndTakesTime := by
  intro s
  refine ⟨fun hl => by simp [step, hl], fun hl hr => by simp [step, hl, hr], fun ⟨hl, hr⟩ => ?_⟩
  obtain ⟨t, hstep, ⟨k, h1, h6, ht⟩, hkeeps⟩ := serviceOrRun_stepsTo s.wake
  obtain ⟨hrom, hcfg, hbuttons⟩ := (wake_keepsHost s).trans hkeeps
  exact ⟨t, k, by simp [step, hl, hr, hstep], h1, h6, wake_t s ▸ ht, hrom, hcfg, hbuttons⟩

end Sys2Proof.Machine
end

section
/-! PROOFS. Encoding: the opcode's length says how many bytes are looked at, and on those bytes the decoder and the encoder
are inverse to each other (30_encoding.md R120 to R135); and the step runs what the bytes at `pc` decode to. -/

namespace Sys2Proof.Machine

open Sys2Proof

/-! ## The three classes of opcodes -/

/-- The length names the list that the opcode stands in. -/
theorem mem_opcodes_of_instrLength (op : Byte) :
    (instrLength op = 2 → op ∈ twoByteOpcodes) ∧ (instrLength op = 3 → op ∈ threeByteOpcodes) := by
  unfold instrLength
  split_ifs with h3 h2
  · simp [h3]
  · simp [h2]
  · simp

theorem instrLength_illegal : ∀ op ∈ illegalOpcodes, instrLength op = 1 := by decide

/-! ## The encoder after the decoder -/

/-- The instruction is well-formed and `bytes` is its encoding. -/
abbrev IsRow (i : Instr) (bytes : List Byte) : Prop := encode i = bytes ∧ i.wf = true

theorem isRow_oneByte : ∀ op : Byte, instrLength op = 1 → IsRow (decodeBytes op 0 0) [op] := by decide

theorem isRow_decodeCB : ∀ op2 : Byte, IsRow (decodeCB op2) [0xCB, op2] := by decide

theorem isRow_twoByte {op : Byte} (h : instrLength op = 2) (b1 b2 : Byte) : IsRow (decodeBytes op b1 b2) [op, b1] := by
  have hmem := (mem_opcodes_of_instrLength op).1 h
  fin_cases hmem
  -- 0xCB stands last in the list, and its row is that of its second byte.
  on_goal -1 => exact isRow_decodeCB b1
  all_goals exact ⟨rfl, rfl⟩

theorem isRow_threeByte {op : Byte} (h : instrLength op = 3) (b1 b2 : Byte) :
    IsRow (decodeBytes op b1 b2) [op, b1, b2] := by
  have hmem := (mem_opcodes_of_instrLength op).2 h
  have hword : [op, loByte (joinBytes b1 b2), hiByte (joinBytes b1 b2)] = [op, b1, b2] := by simp
  refine ⟨Eq.trans ?_ hword, ?_⟩
  all_goals fin_cases hmem <;> rfl

/-- Every three bytes begin a well-formed instruction, and its encoding is those of them that its length counts. -/
theorem isRow_decodeBytes (op b1 b2 : Byte) : IsRow (decodeBytes op b1 b2) ([op, b1, b2].take (instrLength op)) := by
  rcases instrLength_cases op with h | h | h
  · rw [h, decodeBytes_oneByte h b1 b2 0 0]
    exact isRow_oneByte op h
  · rw [h]
    exact isRow_twoByte h b1 b2
  · rw [h]
    exact isRow_threeByte h b1 b2

/-! ## The decoder on a list of bytes -/

/-- The decoder takes the bytes that the opcode's length counts and leaves the rest of the list, whatever it holds. -/
theorem decode_take_append (op b1 b2 : Byte) (rest : List Byte) :
    decode ([op, b1, b2].take (instrLength op) ++ rest) = .ok (decodeBytes op b1 b2, rest) := by
  rcases instrLength_cases op with h | h | h
  · simp [decode, h, decodeBytes_oneByte h b1 b2 (rest.getD 0 0) (rest.getD 1 0)]
  · simp [decode, h, decodeBytes_noWord (by omega : instrLength op ≠ 3) b1 b2 (rest.getD 0 0)]
  · simp [decode, h]

theorem decode_three_append (op b1 b2 : Byte) (rest : List Byte) :
    decode (op :: b1 :: b2 :: rest) = .ok (decodeBytes op b1 b2, (op :: b1 :: b2 :: rest).drop (instrLength op)) := by
  have hsplit : op :: b1 :: b2 :: rest
      = [op, b1, b2].take (instrLength op) ++ (op :: b1 :: b2 :: rest).drop (instrLength op) := by
    rcases instrLength_cases op with h | h | h <;> rw [h] <;> rfl
  exact (congrArg decode hsplit).trans (decode_take_append op b1 b2 _)

/-! ## The decoder after the encoder -/

/-- The bytes of an encoding are one instruction with nothing left: a word operand is its two bytes joined again. -/
theorem decode_encode {i : Instr} (h : i.wf = true) : decode (encode i) = .ok (i, []) := by
  cases i
  case prefixCB => contradiction
  case ld_bc_d16 v | ld_de_d16 v | ld_hl_d16 v | ld_sp_d16 v | ld_atA16_sp v | ld_atA16_a v | ld_a_atA16 v
      | jp_a16 v | jp_nz_a16 v | jp_z_a16 v | jp_nc_a16 v | jp_c_a16 v
      | call_a16 v | call_nz_a16 v | call_z_a16 v | call_nc_a16 v | call_c_a16 v =>
    conv_rhs => rw [← joinBytes_loByte_hiByte v]
    rfl
  all_goals rfl

theorem exists_decodeBytes_of_decode {bytes rest : List Byte} {i : Instr} (h : decode bytes = .ok (i, rest)) :
    ∃ op b1 b2, i = decodeBytes op b1 b2 := by
  cases bytes with
  | nil => contradiction
  | cons op tail =>
    unfold decode at h
    dsimp only at h
    split at h
    · contradiction
    · cases h
      exact ⟨_, _, _, rfl⟩

/-- Settles O2: a well-formed instruction is the row of its bytes, and the decoder takes just them. -/
theorem decodeAfterEncode : Obligations.DecodeAfterEncode := by
  intro i rest hwf
  obtain ⟨op, b1, b2, rfl⟩ := exists_decodeBytes_of_decode (decode_encode hwf)
  rw [(isRow_decodeBytes op b1 b2).1]
  exact decode_take_append op b1 b2 rest

/-! ## Illegal opcodes -/

theorem isIllegal_decodeBytes (op b1 b2 : Byte) : isIllegal (decodeBytes op b1 b2) = true ↔ op ∈ illegalOpcodes := by
  have hlen := instrLength_cases op
  simp only [isIllegal, (isRow_decodeBytes op b1 b2).1, decide_eq_true_eq, List.mem_map]
  constructor
  · rintro ⟨b, hb, htake⟩
    have hhead : b = op := by rcases hlen with h | h | h <;> rw [h] at htake <;> exact (List.cons.inj htake).1
    exact hhead ▸ hb
  · intro hop
    exact ⟨op, hop, by rw [instrLength_illegal op hop]; rfl⟩

/-- Settles O3: every opcode is a row, one byte long where it is illegal. -/
theorem everyWordIsOneInstruction : Obligations.EveryWordIsOneInstruction := by
  intro op b1 b2 rest
  have hlen := instrLength_cases op
  obtain ⟨hencode, hwf⟩ := isRow_decodeBytes op b1 b2
  exact ⟨decode_three_append op b1 b2 rest, hencode, hwf, by omega, by omega, isIllegal_decodeBytes op b1 b2⟩

/-- Settles O1: the words are closed, so the decoder runs on them. -/
theorem decodesWrittenWords : Obligations.DecodesWrittenWords := by
  unfold Obligations.DecodesWrittenWords
  and_intros <;> rfl

/-! ## The step -/

/-- Nothing is serviced where IME is clear or no enabled source is pending (R340). -/
theorem toService_eq_none {s : State} (h : s.cpu.ime = false ∨ s.irq.flags &&& s.irq.enable.setWidth 5 = 0) :
    s.toService = none := by
  unfold State.toService
  rcases h with hime | hpending
  · simp [hime]
  · have hzero : s.pending = 0 := hpending
    simp [hzero, lowestSource]

theorem step_eq_instructionStep {s : State} (hlive : s.live) (hhalted : s.cpu.halted = false)
    (hnone : s.toService = none) : step s = instructionStep s := by
  obtain ⟨hlocked, hrefused⟩ := hlive
  simp [step, serviceOrRun, wake_of_not_halted hhalted, hnone, hlocked, hrefused, hhalted]

theorem transferLatch_eq (t : State) (was : Bool) :
    t.transferLatch was = if was = true ∧ t.cpu.imePending = true ∧ (t.cpu.ime = true ∨ t.cpu.halted = false) then
      { t with cpu := { t.cpu with ime := true, imePending := false } } else t := by
  simp [State.transferLatch, and_assoc]

theorem add_one_add_ofNat_pred (p : Word) {n : Nat} (h : 1 ≤ n) :
    p + 1 + BitVec.ofNat 16 (n - 1) = p + BitVec.ofNat 16 n := by
  bv_omega

/-- A fetch with the HALT-bug latch clear: the bytes at `pc` in turn, and `pc` past those that the length counts. -/
theorem fetch_of_haltBug_clear {s : State} (h : s.cpu.haltBug = false) :
    let op := (s.advance 4).cpuRead s.cpu.pc
    s.fetch = (decodeBytes op ((s.advance 8).cpuRead (s.cpu.pc + 1)) ((s.advance 12).cpuRead (s.cpu.pc + 2)),
      { s.advance (4 * instrLength op) with cpu := { s.cpu with
        pc := s.cpu.pc + BitVec.ofNat 16 (instrLength op), curAddr := s.cpu.pc } }) := by
  have hpc : s.pcAfterOpcode = s.cpu.pc + 1 := by simp [State.pcAfterOpcode, h]
  have hpc2 : s.cpu.pc + 1 + 1 = s.cpu.pc + 2 := by bv_omega
  have hlen := instrLength_cases ((s.advance 4).cpuRead s.cpu.pc)
  rw [fetch_eq, hpc, hpc2, add_one_add_ofNat_pred _ (by omega), ← h]

/-- Settles O34: the fetch takes the bytes of the decoded instruction, which completes, and the latch follows it. -/
theorem stepRunsDecoded : Obligations.StepRunsDecoded := by
  intro s i rest hlive hhalted hbug hnone hdecode
  have hlen := instrLength_cases ((s.advance 4).cpuRead s.cpu.pc)
  obtain ⟨rfl, hrest⟩ := decode_three_eq_ok hdecode
  have hcount : 3 - rest.length = instrLength ((s.advance 4).cpuRead s.cpu.pc) := by omega
  obtain ⟨t, ht, -⟩ := exec_effect s.fetch.1 s.fetch.2
  refine ⟨t, ?_, ?_⟩
  · rw [fetch_of_haltBug_clear hbug] at ht
    rw [hcount]
    exact ht
  · rw [step_eq_instructionStep hlive hhalted (toService_eq_none hnone), instructionStep_of_exec ht, transferLatch_eq]

end Sys2Proof.Machine
end

section
/-! PROOFS. The 8-bit loads (40_load8.md R150 to R169): what each form does to the machine, by its operands. -/

namespace Sys2Proof.Machine

open Sys2Proof

/-! ## The meaning of each form -/

theorem exec_ldRegReg (q r : Reg) (s : State) : exec (ldRegReg q r) s = .next (s.setReg q (s.reg r)) := by
  cases q <;> cases r <;> rfl

theorem exec_ldRegImm (q : Reg) (v : Byte) (s : State) : exec (ldRegImm q v) s = .next (s.setReg q v) := by cases q <;> rfl

theorem exec_ldRegMem (r : Reg) (s : State) : exec (ldRegMem r) s = .next (s.loadReg r s.hl) := by cases r <;> rfl

theorem exec_ldMemReg (r : Reg) (s : State) : exec (ldMemReg r) s = .next (s.storeReg r s.hl) := by cases r <;> rfl

/-! ## Loads -/

theorem loadReg_eq (s : State) (r : Reg) (a : Word) :
    s.loadReg r a = { s.advance 4 with cpu := s.cpu.setReg r ((s.advance 4).cpuRead a) } := by
  simp [State.loadReg, State.setReg]

theorem loadReg_onlyReg (s : State) (r : Reg) (a : Word) :
    OnlyReg s (s.advance 4) r ((s.advance 4).cpuRead a) s.cpu.f (s.loadReg r a) := by
  obtain ⟨hvalue, hothers, hflags, hrest⟩ := setReg_onlyReg (s.advance 4) r ((s.advance 4).cpuRead a)
  simp only [State.reg, advance_cpu] at hvalue hothers hflags hrest
  exact ⟨hvalue, hothers, hflags, hrest⟩

/-- Settles O8: each form is one register write. -/
theorem registerLoads : Obligations.RegisterLoads := by
  intro s
  exact ⟨fun q r => ⟨_, exec_ldRegReg q r s, setReg_onlyReg s q _⟩, fun q v => ⟨_, exec_ldRegImm q v s, setReg_onlyReg s q v⟩⟩

/-- Settles O9: each form is `loadReg` at its own address. -/
theorem memoryLoads : Obligations.MemoryLoads := by
  intro s
  exact ⟨fun r => ⟨_, exec_ldRegMem r s, loadReg_onlyReg s r _⟩, ⟨_, rfl, loadReg_onlyReg s .a _⟩,
    ⟨_, rfl, loadReg_onlyReg s .a _⟩, fun a => ⟨_, rfl, loadReg_onlyReg s .a a⟩, ⟨_, rfl, loadReg_onlyReg s .a _⟩,
    fun n => ⟨_, rfl, loadReg_onlyReg s .a (highPage n)⟩⟩

/-! ## The forms that move HL -/

theorem loadReg_setPair_hl (s : State) (a w : Word) :
    (s.loadReg .a a).setPair .hl w
      = { s.advance 4 with cpu := { s.cpu with a := (s.advance 4).cpuRead a, h := hiByte w, l := loByte w } } := by
  rw [loadReg_eq]
  rfl

theorem memWrite_setPair_hl (s : State) (a : Word) (v : Byte) (w : Word) :
    (s.memWrite a v).setPair .hl w = { s.memWrite a v with cpu := { s.cpu with h := hiByte w, l := loByte w } } := by
  rw [← memWrite_cpu s a v]
  rfl

/-- Settles O10: the access at the old HL, then the write of the pair. -/
theorem postIndexedForms : Obligations.PostIndexedForms := by
  intro s
  exact ⟨congrArg Host.Outcome.next (loadReg_setPair_hl s s.hl _), congrArg Host.Outcome.next (loadReg_setPair_hl s s.hl _),
    congrArg Host.Outcome.next (memWrite_setPair_hl s s.hl s.cpu.a _),
    congrArg Host.Outcome.next (memWrite_setPair_hl s s.hl s.cpu.a _)⟩

/-! ## Stores -/

theorem storable_advance {s : State} {a : Word} (h : s.storable a) (n : Nat) : (s.advance n).storable a := by
  simpa [State.storable, State.hasCell] using h

theorem cpuWrite_of_not_blocked {s : State} {a : Word} (h : s.blocked a = false) (v : Byte) :
    s.cpuWrite a v = s.busWrite a v := by
  simp [State.cpuWrite, h]

/-- A byte of the address space after a store that the CPU makes to an ordinary cell it can reach. -/
theorem busRead_memWrite {s : State} (hinv : s.Inv) {a : Word} (h : s.storable a)
    (hfree : (s.advance 4).blocked a = false) (v : Byte) (b : Word) :
    (s.memWrite a v).busRead b = if regionOf b = regionOf a then v else (s.advance 4).busRead b := by
  have hmem : (s.advance 4).MemInv := (hinv.devInv.advance 4).mem
  rw [memWrite_eq, cpuWrite_of_not_blocked hfree, busRead_busWrite hmem (storable_advance h 4)]

/-- An instruction that is one CPU write stores the byte, and nothing else. -/
theorem stores_of_exec_eq_memWrite {s : State} (hinv : s.Inv) {i : Instr} {a : Word} {v : Byte}
    (h : exec i s = .next (s.memWrite a v)) :
    ∃ t, exec i s = .next t ∧ t.cpu = s.cpu ∧ t = (s.advance 4).cpuWrite a v
      ∧ (s.storable a → (s.advance 4).blocked a = false →
        ∀ b, t.busRead b = if regionOf b = regionOf a then v else (s.advance 4).busRead b) :=
  ⟨_, h, memWrite_cpu s a v, memWrite_eq s a v, fun hs hfree => busRead_memWrite hinv hs hfree v⟩

/-- Settles O11: each form is one `memWrite` at its own address. -/
theorem memoryStores : Obligations.MemoryStores := by
  intro s hinv
  exact ⟨fun r => stores_of_exec_eq_memWrite hinv (exec_ldMemReg r s), fun _ => stores_of_exec_eq_memWrite hinv rfl,
    stores_of_exec_eq_memWrite hinv rfl, stores_of_exec_eq_memWrite hinv rfl,
    fun _ => stores_of_exec_eq_memWrite hinv rfl, stores_of_exec_eq_memWrite hinv rfl,
    fun _ => stores_of_exec_eq_memWrite hinv rfl⟩

end Sys2Proof.Machine
end

section
/-! PROOFS. The 16-bit loads and the stack (41_load16_stack.md R180 to R188): what each form does to the machine, and the
bytes of a push as the bus shows them. -/

namespace Sys2Proof.Machine

open Sys2Proof

/-! ## The meaning of each form -/

theorem exec_ldPairImm (p : Pair) (v : Word) (s : State) : exec (ldPairImm p v) s = .next (s.setPair p v) := by
  cases p <;> rfl

theorem exec_pushPair (p : StackPair) (s : State) : exec (pushPair p) s = .next (s.pushPair p) := by cases p <;> rfl

theorem exec_popPair (p : StackPair) (s : State) : exec (popPair p) s = .next (s.popPair p) := by cases p <;> rfl

/-- Settles O14: a register write commutes with the time that follows it, and the store is two `memWrite`s. -/
theorem wordLoads : Obligations.WordLoads := by
  intro s
  exact ⟨fun p v => exec_ldPairImm p v s, congrArg Host.Outcome.next (advance_setCpu 4 s _),
    fun _ => congrArg Host.Outcome.next (advance_setCpu 4 s _), fun a => ⟨_, rfl, by simp, rfl⟩⟩

/-! ## What a push and a pop do to the machine -/

theorem pushPair_eq (s : State) (p : StackPair) :
    s.pushPair p
      = { (s.pushed s.cpu.sp (s.cpu.stackPair p)).advance 4 with cpu := { s.cpu with sp := s.cpu.sp - 2 } } := by
  rw [State.pushPair, push16_eq, advance_setCpu]
  rfl

theorem popPair_eq (s : State) (p : StackPair) :
    s.popPair p = { s.advance 8 with
      cpu := Cpu.setStackPair { s.cpu with sp := s.cpu.sp + 2 } p (s.popped s.cpu.sp) } := by
  rw [State.popPair, pop16_eq]
  rfl

/-- A stack pair read after it is written: AF has lost F's low nibble (10_state.md R24). -/
theorem stackPair_setStackPair (c : Cpu) (p : StackPair) (v : Word) :
    (c.setStackPair p v).stackPair p = if p = .af then v &&& 0xFFF0#16 else v := by
  cases p
  case af => exact joinBytes_ofByte v
  all_goals exact joinBytes_loByte_hiByte v

theorem setStackPair_sp (c : Cpu) (p : StackPair) (v : Word) : (c.setStackPair p v).sp = c.sp := by cases p <;> rfl

/-- Settles O16: `popPair_eq`, and the bits of F that a write of AF loads. -/
theorem pops : Obligations.Pops := by
  intro s p v c
  rw [exec_popPair, popPair_eq]
  cases p
  case af => rw [← ofByte_loByte]; rfl
  all_goals rfl

/-! ## Stores and reads while no transfer runs -/

theorem not_blocked_of_idle {s : State} (h : s.dma.active = false) (a : Word) : s.blocked a = false := by
  simp [State.blocked, h]

/-- An ordinary cell lies outside the I/O window (20_memory.md R70). -/
theorem storable_not_ioWindow {s : State} {a : Word} (h : s.storable a) : ¬(0xFF00 ≤ a.toNat ∧ a.toNat < 0xFF80) := by
  rintro ⟨h1, h2⟩
  obtain ⟨hcell, -⟩ := h
  rw [State.hasCell, regionOf_ioWindow h1 h2] at hcell
  cases hcell

/-- Neighbouring bytes never share a cell. -/
theorem regionOf_sub_one_ne_sub_two {s : State} {a : Word} (h : s.storable (a - 2)) :
    regionOf (a - 1) ≠ regionOf (a - 2) := by
  intro heq
  have hnear := eq_or_echo_of_regionOf_eq h heq
  bv_omega

/-- A store to an ordinary cell changes the memories alone. -/
theorem busWrite_of_storable {s : State} {a : Word} (h : s.storable a) (v : Byte) :
    s.busWrite a v = { s with mem := (s.busWrite a v).mem } := by
  obtain ⟨o, ha⟩ | ⟨o, k, ha, hk⟩ | ⟨o, ha⟩ | ⟨o, ha⟩ | ⟨o, ha⟩ := storable_cases h
  · rw [busWrite_vram s v ha]
  · simp [busWrite_ext s v ha, State.extWrite, hk]
  · rw [busWrite_wram s v ha]
  · rw [busWrite_oam s v ha]
  · rw [busWrite_hram s v ha]

section
variable {s : State} {a : Word} (hidle : s.dma.active = false)
include hidle

theorem advance_idle (n : Nat) : (s.advance n).dma.active = false := by
  rw [(advance_idleDma n s hidle).1, hidle]

/-- A byte the CPU reads outside the I/O window, whatever time passes first. -/
theorem cpuRead_advance_of_idle (n : Nat) (hio : ¬(0xFF00 ≤ a.toNat ∧ a.toNat < 0xFF80)) :
    (s.advance n).cpuRead a = s.busRead a := by
  simp [State.cpuRead, not_blocked_of_idle (advance_idle hidle n), advance_busRead n s hio fun _ => hidle]

theorem memWrite_of_storable (h : s.storable a) (v : Byte) :
    s.memWrite a v = { s.advance 4 with mem := (s.memWrite a v).mem } := by
  rw [memWrite_eq, cpuWrite_of_not_blocked (not_blocked_of_idle (advance_idle hidle 4) a)]
  exact busWrite_of_storable (storable_advance h 4) v

theorem memWrite_idle (h : s.storable a) (v : Byte) : (s.memWrite a v).dma.active = false := by
  rw [memWrite_of_storable hidle h]
  exact advance_idle hidle 4

theorem storable_memWrite (h : s.storable a) (v : Byte) {b : Word} (hb : s.storable b) : (s.memWrite a v).storable b := by
  rw [memWrite_of_storable hidle h]
  exact storable_advance hb 4

/-- A byte outside the I/O window after a store to an ordinary cell. -/
theorem busRead_memWrite_of_idle (hinv : s.Inv) (h : s.storable a) (v : Byte) {b : Word}
    (hio : ¬(0xFF00 ≤ b.toNat ∧ b.toNat < 0xFF80)) :
    (s.memWrite a v).busRead b = if regionOf b = regionOf a then v else s.busRead b := by
  rw [busRead_memWrite hinv h (not_blocked_of_idle (advance_idle hidle 4) a), advance_busRead 4 s hio fun _ => hidle]

end

theorem memWrite_inv {s : State} (hinv : s.Inv) (a : Word) (v : Byte) : (s.memWrite a v).Inv := by
  refine (Quiet.devInv (Quiet.refl.memWrite a v) hinv.devInv).inv ?_
  rw [memWrite_cpu]
  exact hinv.cpu

/-! ## The bytes of a push and of a pop -/

section
variable {s : State} {sp : Word} (hidle : s.dma.active = false) (h1 : s.storable (sp - 1)) (h2 : s.storable (sp - 2))
include hidle h1 h2

theorem pushed_idle (v : Word) : (s.pushed sp v).dma.active = false :=
  memWrite_idle (memWrite_idle hidle h1 _) (storable_memWrite hidle h1 _ h2) _

/-- A byte outside the I/O window after the two bytes of a push. -/
theorem busRead_pushed (hinv : s.Inv) (v : Word) {b : Word} (hio : ¬(0xFF00 ≤ b.toNat ∧ b.toNat < 0xFF80)) :
    (s.pushed sp v).busRead b = if regionOf b = regionOf (sp - 2) then loByte v
      else if regionOf b = regionOf (sp - 1) then hiByte v else s.busRead b := by
  rw [State.pushed, busRead_memWrite_of_idle (memWrite_idle hidle h1 _) (memWrite_inv hinv _ _)
    (storable_memWrite hidle h1 _ h2) _ hio, busRead_memWrite_of_idle hidle hinv h1 _ hio]

end

/-- The word a pop reads from ordinary cells. -/
theorem popped_of_idle {s : State} {sp : Word} (hidle : s.dma.active = false)
    (hlo : ¬(0xFF00 ≤ sp.toNat ∧ sp.toNat < 0xFF80)) (hhi : ¬(0xFF00 ≤ (sp + 1).toNat ∧ (sp + 1).toNat < 0xFF80)) :
    s.popped sp = joinBytes (s.busRead sp) (s.busRead (sp + 1)) := by
  rw [State.popped, cpuRead_advance_of_idle hidle 4 hlo, cpuRead_advance_of_idle hidle 8 hhi]

/-- Settles O15: `pushPair_eq`, and the bus after the two bytes, which the last 4 T-cycles do not change. -/
theorem pushes : Obligations.Pushes := by
  intro s p hinv
  refine ⟨_, exec_pushPair p s, pushPair_eq s p, fun h1 h2 hidle => ?_⟩
  have hread {b : Word} (hio : ¬(0xFF00 ≤ b.toNat ∧ b.toNat < 0xFF80)) :
      (s.pushPair p).busRead b = if regionOf b = regionOf (s.cpu.sp - 2) then loByte (s.cpu.stackPair p)
        else if regionOf b = regionOf (s.cpu.sp - 1) then hiByte (s.cpu.stackPair p) else s.busRead b := by
    rw [pushPair_eq, busRead_setCpu, advance_busRead 4 _ hio fun _ => pushed_idle hidle h1 h2 _,
      busRead_pushed hidle h1 h2 hinv _ hio]
  refine ⟨?_, ?_, fun b hio hb1 hb2 => ?_⟩
  · rw [hread (storable_not_ioWindow h1), if_neg (regionOf_sub_one_ne_sub_two h2), if_pos rfl]
  · rw [hread (storable_not_ioWindow h2), if_pos rfl]
  · rw [hread (fun h => hio (.inl h)), if_neg hb2, if_neg hb1]

/-- Settles O17: the pop reads the two bytes that the push left, and writes the pair they join to. -/
theorem pushThenPop : Obligations.PushThenPop := by
  intro s p q hinv hidle h1 h2
  obtain ⟨t, hpush, ht, hbytes⟩ := pushes s p hinv
  obtain ⟨hhi, hlo, -⟩ := hbytes h1 h2 hidle
  have hsp : t.cpu.sp = s.cpu.sp - 2 := by rw [ht]
  have hnext : t.cpu.sp + 1 = s.cpu.sp - 1 := by bv_omega
  have hpushed := pushed_idle hidle h1 h2 (s.cpu.stackPair p)
  have hidle' : t.dma.active = false := by
    rw [ht]
    exact advance_idle hpushed 4
  have hword : t.popped t.cpu.sp = s.cpu.stackPair p := by
    rw [popped_of_idle hidle' (hsp ▸ storable_not_ioWindow h2) (hnext ▸ storable_not_ioWindow h1), hnext, hsp, hhi, hlo,
      joinBytes_loByte_hiByte]
  refine ⟨t, _, hpush, exec_popPair q t, ?_, ?_⟩
  · rw [popPair_eq, setStackPair_sp]
    bv_omega
  · rw [popPair_eq, stackPair_setStackPair, hword]

end Sys2Proof.Machine
end

section
/-! PROOFS. The 8-bit arithmetic and logic (42_alu8.md R200 to R228): one meaning for the three operand forms, the results
and flags as arithmetic, and the byte increments. -/

namespace Sys2Proof.Machine

open Sys2Proof

/-! ## The meaning of each form -/

theorem exec_aluReg (o : Alu) (r : Reg) (s : State) : exec (aluReg o r) s = .next (s.alu o (s.reg r)) := by
  cases o <;> cases r <;> rfl

theorem exec_aluImm (o : Alu) (v : Byte) (s : State) : exec (aluImm o v) s = .next (s.alu o v) := by cases o <;> rfl

theorem exec_aluMem (o : Alu) (s : State) : exec (aluMem o) s = .next (s.aluMem o) := by cases o <;> rfl

theorem exec_incReg (r : Reg) (s : State) : exec (incReg r) s = .next (s.incReg r) := by cases r <;> rfl

theorem exec_decReg (r : Reg) (s : State) : exec (decReg r) s = .next (s.decReg r) := by cases r <;> rfl

/-- The CPU after an ALU operation on A and `v`. -/
def Cpu.alu (c : Cpu) (o : Alu) (v : Byte) : Cpu :=
  { c with a := if aluWritesA o then (aluResult o c.a v c.f.c).1 else c.a, f := (aluResult o c.a v c.f.c).2 }

theorem alu_eq (s : State) (o : Alu) (v : Byte) : s.alu o v = { s with cpu := s.cpu.alu o v } := rfl

theorem aluMem_eq (s : State) (o : Alu) :
    s.aluMem o = { s.advance 4 with cpu := s.cpu.alu o ((s.advance 4).cpuRead s.hl) } := by
  simp [State.aluMem, alu_eq]

/-- The three operand forms do one thing to the CPU: what holds of the operation for every operand holds of each form. -/
theorem eachAluForm_of_cpu {o : Alu} {s : State} {c : Byte → Cpu} (h : ∀ v, s.cpu.alu o v = c v) :
    EachAluForm o s fun i v u => exec i s = .next { u with cpu := c v } := by
  refine ⟨fun r => ?_, fun v => ?_, ?_⟩ <;> dsimp only
  · rw [exec_aluReg, alu_eq, h]
  · rw [exec_aluImm, alu_eq, h]
  · rw [exec_aluMem, aluMem_eq, h]

/-! ## Results and flags as arithmetic (R200) -/

theorem addFlags_eq (a v : Byte) (c : Bool) :
    addFlags a v c = (BitVec.ofNat 8 (a.toNat + v.toNat + c.toNat),
      ⟨decide ((a.toNat + v.toNat + c.toNat) % 256 = 0), false, decide (15 < a.toNat % 16 + v.toNat % 16 + c.toNat),
        decide (255 < a.toNat + v.toNat + c.toNat)⟩) := by
  simp only [addFlags, ofNat_byte_eq_zero]
  rfl

theorem subFlags_eq (a v : Byte) (c : Bool) :
    subFlags a v c = (a - v - BitVec.ofNat 8 c.toNat,
      ⟨decide (a - v - BitVec.ofNat 8 c.toNat = 0), true, decide (a.toNat % 16 < v.toNat % 16 + c.toNat),
        decide (a.toNat < v.toNat + c.toNat)⟩) := by
  have hdiff : BitVec.ofInt 8 ((a.toNat : Int) - v.toNat - c.toNat) = a - v - BitVec.ofNat 8 c.toNat := by
    apply BitVec.eq_of_toNat_eq
    rw [BitVec.toNat_ofInt]
    bv_omega
  simp only [subFlags, hdiff]
  rfl

/-- Without a borrow coming in, the difference is zero exactly when the operands are equal. -/
theorem subFlags_false (a v : Byte) :
    subFlags a v false
      = (a - v, ⟨decide (a = v), true, decide (a.toNat % 16 < v.toNat % 16), decide (a.toNat < v.toNat)⟩) := by
  have hzero : a - v = 0#8 ↔ a = v := sub_eq_zero
  simp [subFlags_eq, hzero]

theorem incFlags_eq (v : Byte) (f : Flags) :
    incFlags v f = (v + 1, ⟨decide (v = 0xFF), false, decide (v.toNat % 16 = 15), f.c⟩) := by
  have hzero : v + 1 = 0#8 ↔ v = 0xFF := eq_neg_iff_add_eq_zero.symm
  simp only [incFlags, hzero]
  rfl

theorem decFlags_eq (v : Byte) (f : Flags) :
    decFlags v f = (v - 1, ⟨decide (v = 0x01), true, decide (v.toNat % 16 = 0), f.c⟩) := by
  have hzero : v - 1 = 0#8 ↔ v = 0x01 := sub_eq_zero
  simp only [decFlags, hzero]
  rfl

/-! ## The operations on A -/

/-- Settles O18: both are `addFlags`, ADD with no carry coming in. -/
theorem additions : Obligations.Additions := by
  intro s a
  exact ⟨eachAluForm_of_cpu fun v => by simp [Cpu.alu, aluResult, aluWritesA, addFlags_eq, a],
    eachAluForm_of_cpu fun v => by simp [Cpu.alu, aluResult, aluWritesA, addFlags_eq, a]⟩

/-- Settles O19: all three are `subFlags`, and CP does not write A. -/
theorem subtractions : Obligations.Subtractions := by
  intro s a
  exact ⟨eachAluForm_of_cpu fun v => by simp [Cpu.alu, aluResult, aluWritesA, subFlags_false, a],
    eachAluForm_of_cpu fun v => by simp [Cpu.alu, aluResult, aluWritesA, subFlags_eq, a],
    eachAluForm_of_cpu fun v => by simp [Cpu.alu, aluResult, aluWritesA, subFlags_false, a]⟩

/-- Settles O20: the three are `logicFlags` of the bitwise result; when XOR and OR give zero is said of the operands. -/
theorem logicOperations : Obligations.LogicOperations := by
  intro s
  exact ⟨eachAluForm_of_cpu fun v => by simp [Cpu.alu, aluResult, aluWritesA, logicFlags],
    eachAluForm_of_cpu fun v => by simp [Cpu.alu, aluResult, aluWritesA, logicFlags],
    eachAluForm_of_cpu fun v => by simp [Cpu.alu, aluResult, aluWritesA, logicFlags]⟩

/-! ## The byte increments (R225 to R228) -/

theorem OnlyReg.setFlags {s u t : State} {r : Reg} {v : Byte} {f : Flags} (h : OnlyReg s u r v f t) (g : Flags) :
    OnlyReg s u r v g (t.setFlags g) where
  value := by simpa using h.value
  others q hq := by simpa using h.others q hq
  flags := rfl
  rest := congrArg (State.setFlags · g) h.rest

theorem incReg_onlyReg (s : State) (r : Reg) :
    OnlyReg s s r (s.reg r + 1)
      ⟨decide (s.reg r = 0xFF), false, decide ((s.reg r).toNat % 16 = 15), s.cpu.f.c⟩ (s.incReg r) := by
  rw [State.incReg, incFlags_eq]
  exact (setReg_onlyReg s r _).setFlags _

theorem decReg_onlyReg (s : State) (r : Reg) :
    OnlyReg s s r (s.reg r - 1)
      ⟨decide (s.reg r = 0x01), true, decide ((s.reg r).toNat % 16 = 0), s.cpu.f.c⟩ (s.decReg r) := by
  rw [State.decReg, decFlags_eq]
  exact (setReg_onlyReg s r _).setFlags _

/-- A read-modify-write at HL: the byte read after 4 T-cycles, written back after 4 more, and the flags. -/
theorem modifyAtHl_eq (s : State) (g : Byte → Flags → Byte × Flags) :
    let r := g ((s.advance 4).cpuRead s.hl) s.cpu.f
    s.modifyAtHl g = { (s.advance 4).memWrite s.hl r.1 with cpu := { s.cpu with f := r.2 } } := by
  intro r
  rw [State.modifyAtHl, State.setFlags, memWrite_setCpu, memRead_snd, advance_cpu]
  rfl

/-- Settles O21: a register form is a register write and a flag write, the memory form a read-modify-write. -/
theorem byteIncrements : Obligations.ByteIncrements := by
  intro s up down v
  refine ⟨fun r => ⟨_, exec_incReg r s, incReg_onlyReg s r⟩, fun r => ⟨_, exec_decReg r s, decReg_onlyReg s r⟩, ?_, ?_⟩
  · show Host.Outcome.next (s.modifyAtHl incFlags) = _
    rw [modifyAtHl_eq, incFlags_eq]
  · show Host.Outcome.next (s.modifyAtHl decFlags) = _
    rw [modifyAtHl_eq, decFlags_eq]

end Sys2Proof.Machine
end

section
/-! PROOFS. DAA, CPL, SCF and CCF (42_alu8.md R229 to R232), and DAA after ADD or SUB of packed-decimal bytes. -/

namespace Sys2Proof.Machine

open Sys2Proof

/-! ## DAA as arithmetic -/

theorem daaLow_eq (a : Byte) (f : Flags) :
    daaLow a f = decide (f.h = true ∨ (f.n = false ∧ 9 < a.toNat % 16)) := by
  show (f.h || (!f.n && decide (9 < a.toNat % 16))) = _
  simp

theorem daaHigh_eq (a : Byte) (f : Flags) :
    daaHigh a f = decide (f.c = true ∨ (f.n = false ∧ 0x99 < a.toNat)) := by
  simp [daaHigh]

theorem toNat_daaAdjust (a : Byte) (f : Flags) :
    (daaAdjust a f).toNat = (if daaLow a f = true then 6 else 0) + (if daaHigh a f = true then 0x60 else 0) := by
  unfold daaAdjust
  split <;> split <;> rfl

/-- DAA's result: A plus the adjustment, after a subtraction A minus it. -/
theorem daaResult_fst (a : Byte) (f : Flags) :
    let six := if daaLow a f = true then 6 else 0
    let sixty := if daaHigh a f = true then 0x60 else 0
    (daaResult a f).1
      = if f.n then BitVec.ofNat 8 (a.toNat + 512 - six - sixty) else BitVec.ofNat 8 (a.toNat + six + sixty) := by
  intro six sixty
  have hadjust : (daaAdjust a f).toNat = six + sixty := toNat_daaAdjust a f
  rw [daaResult]
  dsimp only
  split
  · bv_omega
  · bv_omega

theorem exec_daa_eq (s : State) : exec .daa s = .next { s with cpu := { s.cpu with
    a := (daaResult s.cpu.a s.cpu.f).1, f := (daaResult s.cpu.a s.cpu.f).2 } } := rfl

/-! ## DAA after ADD and SUB of packed-decimal bytes -/

theorem toNat_packedDecimal {p q : Nat} (hp : p < 10) (hq : q < 10) : (packedDecimal (10 * p + q)).toNat = 16 * p + q := by
  rw [packedDecimal, BitVec.toNat_ofNat]
  omega

theorem exists_digits {n : Nat} (h : n < 100) : ∃ p q, p < 10 ∧ q < 10 ∧ n = 10 * p + q :=
  ⟨n / 10, n % 10, by omega, by omega, by omega⟩

/-- The digit and the carry of a sum of two digits, the second with a carry already in it. -/
theorem exists_carry {a b : Nat} (ha : a < 10) (hb : b ≤ 10) : ∃ d k, d < 10 ∧ k < 2 ∧ a + b = 10 * k + d :=
  ⟨(a + b) % 10, (a + b) / 10, by omega, by omega, by omega⟩

/-- The digit and the borrow of a difference of two digits, the second with a borrow already in it. -/
theorem exists_borrow {a b : Nat} (ha : a < 10) (hb : b ≤ 10) : ∃ d k, d < 10 ∧ k < 2 ∧ a + 10 * k = b + d := by
  by_cases h : b ≤ a
  · exact ⟨a - b, 0, by omega, by omega, by omega⟩
  · exact ⟨a + 10 - b, 1, by omega, by omega, by omega⟩

section
variable {p q p' q' : Nat} (hp : p < 10) (hq : q < 10) (hp' : p' < 10) (hq' : q' < 10)
include hp hq hp' hq'

/-- After ADD the low digit is adjusted where the low digits carry, the high digit where the sum has three digits. -/
theorem daaAdjusts_addFlags_digits :
    let r := addFlags (packedDecimal (10 * p + q)) (packedDecimal (10 * p' + q')) false
    daaLow r.1 r.2 = decide (9 < q + q') ∧ daaHigh r.1 r.2 = decide (100 ≤ 10 * p + q + (10 * p' + q')) := by
  intro r
  simp only [r, daaLow_eq, daaHigh_eq, addFlags_eq, decide_eq_decide, decide_eq_true_eq, BitVec.toNat_ofNat,
    toNat_packedDecimal hp hq, toNat_packedDecimal hp' hq', Bool.toNat_false, true_and]
  constructor <;> omega

/-- After SUB the low digit is adjusted where the low digits borrow, the high digit where the difference is negative. -/
theorem daaAdjusts_subFlags_digits :
    let r := subFlags (packedDecimal (10 * p + q)) (packedDecimal (10 * p' + q')) false
    daaLow r.1 r.2 = decide (q < q') ∧ daaHigh r.1 r.2 = decide (10 * p + q < 10 * p' + q') := by
  intro r
  simp only [r, daaLow_eq, daaHigh_eq, subFlags_false, decide_eq_decide, decide_eq_true_eq,
    toNat_packedDecimal hp hq, toNat_packedDecimal hp' hq', Bool.true_eq_false, false_and, or_false]
  constructor <;> omega

theorem daaResult_addFlags_digits :
    let r := addFlags (packedDecimal (10 * p + q)) (packedDecimal (10 * p' + q')) false
    (daaResult r.1 r.2).1 = packedDecimal ((10 * p + q + (10 * p' + q')) % 100) := by
  intro r
  obtain ⟨hlow, hhigh⟩ := daaAdjusts_addFlags_digits hp hq hp' hq'
  obtain ⟨d, k, hd, hk, hlowDigit⟩ := exists_carry hq (Nat.le_of_lt hq')
  obtain ⟨e, l, he, hl, hhighDigit⟩ := exists_carry (b := p' + k) hp (by omega)
  rw [show (10 * p + q + (10 * p' + q')) % 100 = 10 * e + d by omega]
  apply BitVec.eq_of_toNat_eq
  rw [daaResult_fst, hlow, hhigh, toNat_packedDecimal he hd]
  simp only [r, addFlags_eq, Bool.false_eq_true, if_false, BitVec.toNat_ofNat, decide_eq_true_eq, Bool.toNat_false,
    toNat_packedDecimal hp hq, toNat_packedDecimal hp' hq']
  split <;> split <;> omega

theorem daaResult_subFlags_digits :
    let r := subFlags (packedDecimal (10 * p + q)) (packedDecimal (10 * p' + q')) false
    (daaResult r.1 r.2).1 = packedDecimal ((10 * p + q + 100 - (10 * p' + q')) % 100) := by
  intro r
  obtain ⟨hlow, hhigh⟩ := daaAdjusts_subFlags_digits hp hq hp' hq'
  obtain ⟨d, k, hd, hk, hlowDigit⟩ := exists_borrow hq (Nat.le_of_lt hq')
  obtain ⟨e, l, he, hl, hhighDigit⟩ := exists_borrow (b := p' + k) hp (by omega)
  have hbyte : r.1.toNat + (16 * p' + q') = 16 * p + q + 256 * l := by
    simp only [r, subFlags_false, BitVec.toNat_sub, toNat_packedDecimal hp hq, toNat_packedDecimal hp' hq']
    omega
  have hn : r.2.n = true := rfl
  rw [show (10 * p + q + 100 - (10 * p' + q')) % 100 = 10 * e + d by omega]
  apply BitVec.eq_of_toNat_eq
  rw [daaResult_fst, hlow, hhigh, toNat_packedDecimal he hd, hn, if_pos rfl, BitVec.toNat_ofNat]
  simp only [decide_eq_true_eq]
  split <;> split <;> omega

end

/-- Settles O22: DAA under `daaResult_fst`; after ADD and SUB it adjusts where the decimal digits carry or borrow. -/
theorem accumulatorAdjustments : Obligations.AccumulatorAdjustments := by
  intro s a f six sixty r
  have hr : (daaResult s.cpu.a f).1 = r := by
    simp [daaResult_fst, daaLow_eq, daaHigh_eq, r, six, sixty, a]
  refine ⟨?_, ?_, rfl, rfl, fun x y hx hy ha => ?_⟩
  · rw [exec_daa_eq, ← hr, ← daaHigh_eq]
    rfl
  · rw [← BitVec.xor_allOnes]
    rfl
  · obtain ⟨p, q, hp, hq, rfl⟩ := exists_digits hx
    obtain ⟨p', q', hp', hq', rfl⟩ := exists_digits hy
    have hadd := daaResult_addFlags_digits hp hq hp' hq'
    have hsub := daaResult_subFlags_digits hp hq hp' hq'
    have haddHigh := (daaAdjusts_addFlags_digits hp hq hp' hq').2
    have hsubHigh := (daaAdjusts_subFlags_digits hp hq hp' hq').2
    rw [← ha] at hadd hsub haddHigh hsubHigh
    exact ⟨⟨_, _, rfl, rfl, hadd, haddHigh⟩, ⟨_, _, rfl, rfl, hsub, hsubHigh⟩⟩

end Sys2Proof.Machine
end

section
/-! PROOFS. The 16-bit arithmetic (43_alu16.md R250 to R253): what each form does to the machine, by its pair. -/

namespace Sys2Proof.Machine

open Sys2Proof

/-! ## The meaning of each form -/

theorem exec_addHlPair (p : Pair) (s : State) : exec (addHlPair p) s = .next (s.addHl p) := by cases p <;> rfl

theorem exec_incPair (p : Pair) (s : State) : exec (incPair p) s = .next (s.incPair p) := by cases p <;> rfl

theorem exec_decPair (p : Pair) (s : State) : exec (decPair p) s = .next (s.decPair p) := by cases p <;> rfl

/-! ## What each operation does to the machine: a CPU write, and the internal T-cycles after it -/

theorem addHlFlags_eq (h v : Word) (f : Flags) :
    addHlFlags h v f = (h + v, ⟨f.z, false, decide (0xFFF < h.toNat % 4096 + v.toNat % 4096),
      decide (0xFFFF < h.toNat + v.toNat)⟩) := by
  rw [BitVec.add_def]
  rfl

theorem addHl_eq (s : State) (p : Pair) :
    s.addHl p = { s.advance 4 with cpu := { s.cpu with
      h := hiByte (s.hl + s.pair p), l := loByte (s.hl + s.pair p)
      f := ⟨s.cpu.f.z, false, decide (0xFFF < s.hl.toNat % 4096 + (s.pair p).toNat % 4096),
        decide (0xFFFF < s.hl.toNat + (s.pair p).toNat)⟩ } } := by
  rw [State.addHl, addHlFlags_eq]
  exact advance_setCpu 4 s _

theorem incPair_eq (s : State) (p : Pair) :
    s.incPair p = { s.advance 4 with cpu := s.cpu.setPair p (s.pair p + 1) } :=
  advance_setCpu 4 s _

theorem decPair_eq (s : State) (p : Pair) :
    s.decPair p = { s.advance 4 with cpu := s.cpu.setPair p (s.pair p - 1) } :=
  advance_setCpu 4 s _

/-- Settles O23: each form writes the CPU and then lets its internal T-cycles pass, which commute with the write. -/
theorem wordArithmetic : Obligations.WordArithmetic := by
  intro s
  refine ⟨fun p => ?_, fun p => ?_, fun p => ?_, fun e => ?_⟩
  · rw [exec_addHlPair, addHl_eq]
  · rw [exec_incPair, incPair_eq]
  · rw [exec_decPair, decPair_eq]
  · exact congrArg Host.Outcome.next (advance_setCpu 8 s _)

end Sys2Proof.Machine
end

section
/-! PROOFS. The rotates, shifts and bit instructions (44_rotate_shift_bit.md R260 to R286): the result and the bit moved
out as arithmetic, the bit that RES and SET write, and the register and memory forms of each. -/

namespace Sys2Proof.Machine

open Sys2Proof

/-! ## Rotates and shifts as arithmetic (R260) -/

/-- Putting bits side by side is a multiplication and a sum, since the low part stays below `2 ^ n`. -/
theorem toNat_append_eq_add {m n : Nat} (x : BitVec m) (y : BitVec n) : (x ++ y).toNat = x.toNat * 2 ^ n + y.toNat := by
  rw [BitVec.toNat_append, ← Nat.shiftLeft_add_eq_or_of_lt y.isLt, Nat.shiftLeft_eq]

theorem getLsbD_seven_eq (v : Byte) : v.getLsbD 7 = decide (128 ≤ v.toNat) := BitVec.msb_eq_decide v

theorem getLsbD_zero_eq (v : Byte) : v.getLsbD 0 = decide (v.toNat % 2 = 1) := Nat.testBit_zero _

/-- Each result is two bit fields put side by side, or a field and the carry; the arithmetic splits on the top bit. -/
theorem toNat_rotResult_fst (o : Rot) (v : Byte) (c : Bool) :
    (rotResult o v c).1.toNat = (rotNumber o v.toNat c.toNat).1 := by
  have hv : v.toNat < 256 := v.isLt
  have htop : v.toNat / 128 = 0 ∨ v.toNat / 128 = 1 := by omega
  have hc : c.toNat < 2 := c.toNat_lt
  cases o <;>
    simp only [rotResult, rotNumber, toNat_append_eq_add, BitVec.extractLsb'_toNat, BitVec.toNat_ofBool,
      BitVec.toNat_ofNat, Nat.shiftRight_eq_div_pow, Nat.reducePow, Nat.div_one] <;>
    omega

theorem rotResult_snd (o : Rot) (v : Byte) (c : Bool) : (rotResult o v c).2 = (rotNumber o v.toNat c.toNat).2 := by
  cases o
  case rlc | rl | sla => exact getLsbD_seven_eq v
  case rrc | rr | sra | srl => exact getLsbD_zero_eq v
  case swap => rfl

theorem rotResult_eq (o : Rot) (v : Byte) (c : Bool) :
    rotResult o v c = (BitVec.ofNat 8 (rotNumber o v.toNat c.toNat).1, (rotNumber o v.toNat c.toNat).2) := by
  rw [← toNat_rotResult_fst, ← rotResult_snd, BitVec.ofNat_toNat, BitVec.setWidth_eq]

/-- The result fits into a byte, so that the byte is zero exactly when the number is. -/
theorem ofNat_rotNumber_eq_zero (o : Rot) (v : Byte) (c : Bool) :
    BitVec.ofNat 8 (rotNumber o v.toNat c.toNat).1 = 0#8 ↔ (rotNumber o v.toNat c.toNat).1 = 0 := by
  rw [ofNat_byte_eq_zero, ← toNat_rotResult_fst, Nat.mod_eq_of_lt (rotResult o v c).1.isLt]

theorem rotFlags_eq (o : Rot) (v : Byte) (c : Bool) :
    let r := rotNumber o v.toNat c.toNat
    rotFlags o v c = (BitVec.ofNat 8 r.1, ⟨decide (r.1 = 0), false, false, r.2⟩) := by
  simp only [rotFlags, rotResult_eq, ofNat_rotNumber_eq_zero]

theorem rotAFlags_eq (o : Rot) (v : Byte) (c : Bool) :
    let r := rotNumber o v.toNat c.toNat
    rotAFlags o v c = (BitVec.ofNat 8 r.1, ⟨false, false, false, r.2⟩) := by
  simp only [rotAFlags, rotResult_eq]

theorem rotReg_onlyReg (s : State) (o : Rot) (x : Reg) :
    let r := rotNumber o (s.reg x).toNat s.cpu.f.c.toNat
    OnlyReg s s x (BitVec.ofNat 8 r.1) ⟨decide (r.1 = 0), false, false, r.2⟩ (s.rotReg o x) := by
  rw [State.rotReg, rotFlags_eq]
  exact (setReg_onlyReg s x _).setFlags _

theorem rotA_eq (s : State) (o : Rot) :
    let r := rotNumber o s.cpu.a.toNat s.cpu.f.c.toNat
    s.rotA o = { s with cpu := { s.cpu with a := BitVec.ofNat 8 r.1, f := ⟨false, false, false, r.2⟩ } } := by
  rw [State.rotA, rotAFlags_eq]
  rfl

/-- Settles O24: the register form is a register write and a flag write, the memory form a read-modify-write, and the
one-byte forms are the same rotate of A with Z clear. -/
theorem rotatesAndShifts : Obligations.RotatesAndShifts := by
  intro s o r flags v ofA
  have hofA : Host.Outcome.next (s.rotA o) = (.next ofA : Result) := congrArg _ (rotA_eq s o)
  refine ⟨fun x => ⟨_, exec_rotReg o x s, rotReg_onlyReg s o x⟩, ?_, ?_, ?_, ?_, ?_⟩
  · rw [exec_rotMem, State.rotMem, modifyAtHl_eq, rotFlags_eq]
  all_goals
    rintro rfl
    exact hofA

/-! ## Bits (R281 to R286) -/

/-- The mask `1 << b` of RES and SET is the power of two `2 ^ b`. -/
theorem getLsbD_mask (b : Fin 8) (k : Nat) : (1#8 <<< b.val).getLsbD k = decide (k = b.val) := by
  have hmask : (1#8 <<< b.val).getLsbD k = (decide (b.val < 8) && decide (b.val = k)) := BitVec.getLsbD_twoPow b.val k
  simp [hmask, eq_comm]

theorem getLsbD_resetBit (b : Fin 8) (v : Byte) {k : Nat} (hk : k < 8) :
    (resetBit b v).getLsbD k = if k = b.val then false else v.getLsbD k := by
  rw [resetBit, BitVec.getLsbD_and, BitVec.getLsbD_not, getLsbD_mask]
  split <;> simp [*]

theorem getLsbD_setBit (b : Fin 8) (v : Byte) (k : Nat) :
    (setBit b v).getLsbD k = if k = b.val then true else v.getLsbD k := by
  rw [setBit, BitVec.getLsbD_or, getLsbD_mask]
  split <;> simp [*]

theorem bitMem_eq (s : State) (b : Fin 8) :
    s.bitMem b
      = { s.advance 4 with cpu := { s.cpu with f := bitFlags b ((s.advance 4).cpuRead s.hl) s.cpu.f } } := by
  rw [State.bitMem, State.setFlags, memRead_fst, memRead_snd, advance_cpu]

/-- A read-modify-write at HL that leaves the flags is the read and the write alone. -/
theorem modifyAtHl_keepFlags (s : State) (g : Byte → Byte) :
    s.modifyAtHl (fun v f => (g v, f)) = (s.advance 4).memWrite s.hl (g ((s.advance 4).cpuRead s.hl)) := by
  have hflags : (s.advance 4).setFlags s.cpu.f = s.advance 4 := by rw [← advance_cpu 4 s]; rfl
  rw [State.modifyAtHl, memRead_fst, memRead_snd, hflags]

/-- Settles O25: BIT writes flags alone; RES and SET write a byte that differs in one bit, and no flag. -/
theorem bitInstructions : Obligations.BitInstructions := by
  intro s b flags v changed
  have hres : ∀ u, changed u (resetBit b u) false := fun u _ hk => getLsbD_resetBit b u hk
  have hset : ∀ u, changed u (setBit b u) true := fun u k _ => getLsbD_setBit b u k
  refine ⟨fun r => exec_bitReg b r s, ?_, fun r => ⟨_, _, exec_resReg b r s, hres _, setReg_onlyReg s r _⟩,
    fun r => ⟨_, _, exec_setReg b r s, hset _, setReg_onlyReg s r _⟩, ⟨_, ?_, hres v⟩, ⟨_, ?_, hset v⟩⟩
  · rw [exec_bitMem, bitMem_eq]
    rfl
  · rw [exec_resMem, State.resMem, modifyAtHl_keepFlags]
  · rw [exec_setMem, State.setBitMem, modifyAtHl_keepFlags]

end Sys2Proof.Machine
end

section
/-! PROOFS. The control-transfer instructions (45_control_flow.md R300 to R311): one meaning for the four conditional forms
of each transfer, and what a jump, a call and a return do to the machine. -/

namespace Sys2Proof.Machine

open Sys2Proof

/-! ## The conditions (R300) -/

/-- The four forms of a conditional transfer, by the flag that each one tests: NZ and NC go where the flag is clear. -/
theorem exec_cond_forms {i : Cond → Instr} {s taken stay : State}
    (h : ∀ cc, exec (i cc) s = .next (if s.cpu.f.holds cc then taken else stay)) :
    exec (i .nz) s = .next (if s.cpu.f.z then stay else taken) ∧ exec (i .z) s = .next (if s.cpu.f.z then taken else stay)
      ∧ exec (i .nc) s = .next (if s.cpu.f.c then stay else taken)
      ∧ exec (i .c) s = .next (if s.cpu.f.c then taken else stay) := by
  refine ⟨?_, h .z, ?_, h .c⟩
  · rw [h, Flags.holds]
    cases s.cpu.f.z <;> rfl
  · rw [h, Flags.holds]
    cases s.cpu.f.c <;> rfl

/-! ## Jumps (R301 to R305) -/

theorem exec_jpCond (cc : Cond) (a : Word) (s : State) :
    exec (jpCond cc a) s = .next (if s.cpu.f.holds cc then { s.advance 4 with cpu := { s.cpu with pc := a } } else s) := by
  rw [← jump_eq]
  cases cc <;> rfl

theorem exec_jrCond (cc : Cond) (e : Byte) (s : State) :
    exec (jrCond cc e) s = .next (if s.cpu.f.holds cc then
      { s.advance 4 with cpu := { s.cpu with pc := s.cpu.pc + e.signExtend 16 } } else s) := by
  rw [← jump_eq]
  cases cc <;> rfl

/-- Settles O26: each taken jump is `jump_eq`, and `exec_cond_forms` reads the conditions off F. -/
theorem jumps : Obligations.Jumps := by
  intro s a e go rel z c
  have hjump (b : Word) : Host.Outcome.next (s.jump b 4) = (.next (go b) : Result) := congrArg _ (jump_eq s b 4)
  obtain ⟨jpNz, jpZ, jpNc, jpC⟩ := exec_cond_forms fun cc => exec_jpCond cc a s
  exact ⟨hjump a, hjump rel, rfl, jpNz, jpZ, jpNc, jpC, exec_cond_forms fun cc => exec_jrCond cc e s⟩

/-! ## Calls and restarts (R306, R307, R311) -/

theorem call_eq_pushed (s : State) (a : Word) :
    s.call a
      = { (s.pushed s.cpu.sp s.cpu.pc).advance 4 with cpu := { s.cpu with sp := s.cpu.sp - 2, pc := a } } := by
  rw [call_eq, push16_eq, advance_setCpu]
  rfl

theorem exec_callCond (cc : Cond) (a : Word) (s : State) :
    exec (callCond cc a) s = .next (if s.cpu.f.holds cc then
      { (s.pushed s.cpu.sp s.cpu.pc).advance 4 with cpu := { s.cpu with sp := s.cpu.sp - 2, pc := a } } else s) := by
  rw [← call_eq_pushed]
  cases cc <;> rfl

/-- A restart is a call of the multiple of 8 that its opcode names. -/
theorem exec_rst (k : Fin 8) (s : State) : exec (rst k) s = .next (s.call (BitVec.ofNat 16 (8 * k.val))) := by
  match k with
  | 0 | 1 | 2 | 3 | 4 | 5 | 6 | 7 => rfl

/-- Settles O27: every taken form is `State.call` of its target, which `call_eq_pushed` writes out. -/
theorem callsAndRestarts : Obligations.CallsAndRestarts := by
  intro s a called z c
  have hcall (b : Word) : Host.Outcome.next (s.call b) = (.next (called b) : Result) := congrArg _ (call_eq_pushed s b)
  obtain ⟨callNz, callZ, callNc, callC⟩ := exec_cond_forms fun cc => exec_callCond cc a s
  exact ⟨hcall a, callNz, callZ, callNc, callC, fun k => (exec_rst k s).trans (hcall _)⟩

/-! ## Returns (R308 to R310) -/

theorem pop16_fst (s : State) : s.pop16.1 = s.popped s.cpu.sp := by
  rw [pop16_eq]
  rfl

theorem ret_eq_popped (s : State) (k : Nat) :
    s.ret k
      = { s.advance (8 + k) with cpu := { s.cpu with sp := s.cpu.sp + 2, pc := s.popped s.cpu.sp } } := by
  rw [ret_eq, pop16_fst]

theorem exec_retCond (cc : Cond) (s : State) :
    exec (retCond cc) s = .next (if s.cpu.f.holds cc then
      { s.advance 16 with cpu := { s.cpu with sp := s.cpu.sp + 2, pc := s.popped s.cpu.sp } } else s.advance 4) := by
  rw [← ret_eq_popped s 8]
  cases cc <;> rfl

/-- Settles O28: RETI differs from RET in IME alone, and a conditional return in the T-cycles it owes. -/
theorem returns : Obligations.Returns := by
  intro s back stay z c
  refine ⟨congrArg Host.Outcome.next (ret_eq_popped s 4), congrArg Host.Outcome.next ?_,
    exec_cond_forms fun cc => exec_retCond cc s⟩
  rw [returnFromInterrupt_eq, pop16_fst]

end Sys2Proof.Machine
end

section
/-! PROOFS. The entry of the illegal-opcode exception and the delay of EI (46_cpu_control.md R321 to R326; 60_exceptions.md
R341, R346, R360): what a step that runs an instruction does, after the wake, to the run bits. -/

namespace Sys2Proof.Machine

open Sys2Proof

/-! ## A step that runs an instruction -/

/-- Where the CPU is awake after the wake, the wake cleared the halt and did nothing else. -/
theorem wake_eq_of_awake {s : State} (h : s.wake.cpu.halted = false) :
    s.wake = { s with cpu := { s.cpu with halted := false } } := by
  unfold State.wake at h ⊢
  split at h
  · next hp => rw [if_pos hp]
  · next hp => rw [if_neg hp, ← h]

theorem step_of_runsInstruction {s : State} (h : s.runsInstruction) : step s = instructionStep s.wake := by
  obtain ⟨⟨hlocked, hrefused⟩, hnone, hawake⟩ := h
  simp [step, serviceOrRun, hlocked, hrefused, hnone, hawake]

/-- With IME clear, a live CPU that is not halted runs an instruction next. -/
theorem runsInstruction_of_ime_clear {s : State} (hlive : s.live) (hhalted : s.cpu.halted = false)
    (hime : s.cpu.ime = false) : s.runsInstruction := by
  unfold State.runsInstruction
  rw [wake_of_not_halted hhalted]
  exact ⟨hlive, toService_eq_none (.inl hime), hhalted⟩

/-! The wake and the fetch leave IME and the EI latch, and the fetch leaves the halt. -/

@[simp] theorem wake_ime (s : State) : s.wake.cpu.ime = s.cpu.ime := by
  unfold State.wake
  split <;> rfl

@[simp] theorem wake_imePending (s : State) : s.wake.cpu.imePending = s.cpu.imePending := by
  unfold State.wake
  split <;> rfl

@[simp] theorem fetch_ime (s : State) : s.fetch.2.cpu.ime = s.cpu.ime := by rw [fetch_eq]

@[simp] theorem fetch_imePending (s : State) : s.fetch.2.cpu.imePending = s.cpu.imePending := by rw [fetch_eq]

@[simp] theorem fetch_halted (s : State) : s.fetch.2.cpu.halted = s.cpu.halted := by rw [fetch_eq]

/-! ## The illegal-opcode exception -/

theorem exec_decodeBytes_illegal {op : Byte} (h : op ∈ illegalOpcodes) (b1 b2 : Byte) (s : State) :
    exec (decodeBytes op b1 b2) s = .next (s.raiseIllegal op) := by
  fin_cases h <;> rfl

/-- An illegal byte fetched raises the exception 4 T-cycles on, with its own address kept. -/
theorem exec_fetch_illegal {s : State} (h : (s.advance 4).cpuRead s.cpu.pc ∈ illegalOpcodes) :
    ∃ pc, exec s.fetch.1 s.fetch.2 = .next (State.raiseIllegal
      { s.advance 4 with cpu := { s.cpu with pc := pc, curAddr := s.cpu.pc, haltBug := false } }
      ((s.advance 4).cpuRead s.cpu.pc)) := by
  rw [fetch_eq, exec_decodeBytes_illegal h, instrLength_illegal _ h]
  exact ⟨_, rfl⟩

/-- Settles O30: each row raises the exception for its own byte, and a step that fetches such a byte does so after the
wake and the fetch. -/
theorem illegalOpcodeEntry : Obligations.IllegalOpcodeEntry := by
  intro s entry
  constructor
  · intro p hp
    fin_cases hp <;> rfl
  · intro hruns hlatch hop
    obtain ⟨-, -, hawake⟩ := id hruns
    have hwake := wake_eq_of_awake hawake
    have hop' : (s.wake.advance 4).cpuRead s.wake.cpu.pc ∈ illegalOpcodes := by
      rwa [hwake, advance_setCpu, cpuRead_setCpu]
    obtain ⟨pc, hexec⟩ := exec_fetch_illegal hop'
    refine ⟨_, ?_, rfl, rfl⟩
    rw [step_of_runsInstruction hruns, instructionStep_of_not_pending (by rwa [wake_imePending]), hexec, hwake,
      advance_setCpu, cpuRead_setCpu]
    rfl

/-! ## A pending interrupt stays pending as time passes (R349) -/

theorem pending_request_ne_zero {q : Irq} (h : q.pending ≠ 0) (i : Source) : (q.request i).pending ≠ 0 := by
  intro hzero
  have hsplit : (q.request i).pending = q.pending ||| ((1#5 <<< i.index) &&& q.enable.setWidth 5) :=
    BitVec.and_or_distrib_right
  rw [hsplit] at hzero
  exact h (BitVec.or_eq_zero_iff.1 hzero).1

theorem pending_requestIf_ne_zero {q : Irq} (h : q.pending ≠ 0) (b : Bool) (i : Source) :
    (q.requestIf b i).pending ≠ 0 := by
  unfold Irq.requestIf
  split
  · exact pending_request_ne_zero h i
  · exact h

/-- A tick requests Timer, VBlank and STAT, and withdraws nothing. -/
theorem pending_tick_ne_zero {s : State} (h : s.pending ≠ 0) : s.tick.pending ≠ 0 :=
  pending_requestIf_ne_zero (pending_requestIf_ne_zero (pending_requestIf_ne_zero h _ .timer) _ .vblank) _ .stat

theorem pending_advance_ne_zero {s : State} (h : s.pending ≠ 0) (n : Nat) : (s.advance n).pending ≠ 0 := by
  induction n generalizing s with
  | zero => exact h
  | succ n ih => exact ih (pending_tick_ne_zero h)

theorem pending_fetch_ne_zero {s : State} (h : s.pending ≠ 0) : s.fetch.2.pending ≠ 0 := by
  rw [fetch_eq]
  exact pending_advance_ne_zero h _

theorem wake_pending (s : State) : s.wake.pending = s.pending := by
  unfold State.wake
  split <;> rfl

theorem wake_of_not_pending {s : State} (h : s.pending = 0) : s.wake = s := by
  simp [State.wake, h]

/-! ## The EI latch -/

/-- Where IME is clear, HALT halts an awake CPU only with nothing pending, and it leaves IME and the latch (R321). -/
theorem halt_halts {s : State} (hhalted : s.cpu.halted = false) (hime : s.cpu.ime = false)
    (h : s.halt.cpu.halted = true) :
    s.pending = 0 ∧ s.halt.cpu.ime = false ∧ s.halt.cpu.imePending = s.cpu.imePending := by
  unfold State.halt at h ⊢
  split at h
  · simp [hhalted] at h
  · next hbug =>
    rw [if_neg hbug]
    exact ⟨by_contra fun hp => hbug ⟨hime, hp⟩, hime, rfl⟩

/-- So an awake CPU that fetches a HALT and halts had nothing pending before the fetch either. -/
theorem fetch_halt_halts {s : State} (hhalted : s.cpu.halted = false) (hime : s.cpu.ime = false)
    (h : s.fetch.2.halt.cpu.halted = true) :
    s.pending = 0 ∧ s.fetch.2.halt.cpu.ime = false ∧ s.fetch.2.halt.cpu.imePending = s.cpu.imePending := by
  obtain ⟨hpending, hime', hlatch⟩ := halt_halts (by rwa [fetch_halted]) (by rwa [fetch_ime]) h
  exact ⟨by_contra fun hp => pending_fetch_ne_zero hp hpending, hime', hlatch.trans (fetch_imePending s)⟩

@[simp] theorem transferLatch_halted (s : State) (was : Bool) : (s.transferLatch was).cpu.halted = s.cpu.halted := by
  unfold State.transferLatch
  split <;> rfl

/-- The latch that an awake CPU still holds at the end of the instruction sets IME. -/
theorem transferLatch_of_awake {s : State} (hlatch : s.cpu.imePending = true) (hhalted : s.cpu.halted = false) :
    s.transferLatch true = { s with cpu := { s.cpu with ime := true, imePending := false } } := by
  rw [transferLatch_eq, if_pos ⟨rfl, hlatch, .inr hhalted⟩]

/-- The latch waits where the CPU is halted with IME clear. -/
theorem transferLatch_of_halted {s : State} (hhalted : s.cpu.halted = true) (hime : s.cpu.ime = false) (was : Bool) :
    s.transferLatch was = s := by
  rw [transferLatch_eq, if_neg]
  simp [hhalted, hime]

/-- Only DI takes back a latch that is set. -/
theorem imePending_of_exec {i : Instr} {s t : State} (hexec : exec i s = .next t) (hdi : i ≠ .di)
    (hlatch : s.cpu.imePending = true) : t.cpu.imePending = true := by
  obtain ⟨t', ht', -, hwrites, -⟩ := runBitWriters i s
  obtain rfl : t' = t := Host.Outcome.next.inj (ht'.symm.trans hexec)
  by_cases hei : i = .ei
  · subst hei
    cases hexec
    rfl
  · by_contra hne
    exact (hwrites (by rwa [hlatch])).elim hdi hei

theorem eq_halt_of_exec_halts {i : Instr} {s t : State} (hexec : exec i s = .next t) (hs : s.cpu.halted = false)
    (ht : t.cpu.halted = true) : i = .halt := by
  obtain ⟨t', ht', -, -, hwrites, -⟩ := runBitWriters i s
  obtain rfl : t' = t := Host.Outcome.next.inj (ht'.symm.trans hexec)
  exact hwrites (by simp [hs, ht])

/-- With the latch clear, EI is its own meaning alone. -/
theorem instructionStep_ei {s : State} (hlatch : s.cpu.imePending = false) (hei : s.fetch.1 = .ei) :
    instructionStep s = .next { s.fetch.2 with cpu.imePending := true } := by
  rw [instructionStep_of_not_pending hlatch, hei]
  rfl

/-- With the latch set, the step is an instruction and the transfer. -/
theorem instructionStep_of_latched {s u : State} (hlatch : s.cpu.imePending = true) (h : instructionStep s = .next u) :
    ∃ t, exec s.fetch.1 s.fetch.2 = .next t ∧ u = t.transferLatch true := by
  obtain ⟨t, hexec, -⟩ := exec_effect s.fetch.1 s.fetch.2
  rw [instructionStep_of_exec hexec, hlatch] at h
  exact ⟨t, hexec, (Host.Outcome.next.inj h).symm⟩

/-- Settles O36: EI only sets the latch; the instruction after it keeps the latch unless it is DI, and the end of the step
transfers it unless the CPU has halted, which it does only where no wake came before. -/
theorem eiDelay : Obligations.EiDelay := by
  intro s hruns hime i
  obtain ⟨hlive, -, hawake⟩ := id hruns
  rw [step_of_runsInstruction hruns]
  constructor
  · intro hei hclear
    have hhalted : s.wake.fetch.2.cpu.halted = false := by rwa [fetch_halted]
    have hime' : s.wake.fetch.2.cpu.ime = false := by rwa [fetch_ime, wake_ime]
    exact ⟨_, instructionStep_ei (by rwa [wake_imePending]) hei, hime', rfl, hhalted,
      runsInstruction_of_ime_clear hlive.wake.fetch hhalted hime'⟩
  · intro hset u hstep
    obtain ⟨t, hexec, rfl⟩ := instructionStep_of_latched (by rwa [wake_imePending]) hstep
    rw [transferLatch_halted]
    refine ⟨fun hdi => ?_, fun hdi _ hhalted => ?_, fun hhalted => ?_⟩
    · rw [show s.wake.fetch.1 = .di from hdi] at hexec
      cases hexec
      simp [transferLatch_eq]
    · have hkept : t.cpu.imePending = true :=
        imePending_of_exec hexec hdi (by rwa [fetch_imePending, wake_imePending])
      rw [transferLatch_of_awake hkept hhalted]
      exact ⟨rfl, rfl⟩
    · have hhalt : s.wake.fetch.1 = .halt := eq_halt_of_exec_halts hexec (by rwa [fetch_halted]) hhalted
      rw [hhalt] at hexec
      cases hexec
      obtain ⟨hpending, hime', hlatch⟩ := fetch_halt_halts hawake (by rwa [wake_ime]) hhalted
      have hasleep : s.wake = s := wake_of_not_pending ((wake_pending s).symm.trans hpending)
      rw [transferLatch_of_halted hhalted hime', hlatch, wake_imePending]
      exact ⟨hhalt, hasleep ▸ hawake, hime', hset⟩

end Sys2Proof.Machine
end

section
/-! PROOFS. The interrupt service, the halted step and the host's actions (60_exceptions.md R340 to R342, R350, R351,
R372; 61_timer_dma_serial_joypad.md R412). -/

namespace Sys2Proof.Machine

open Sys2Proof

/-! ## The wake (R341) -/

theorem wake_of_pending {s : State} (h : s.pending ≠ 0) : s.wake = { s with cpu := { s.cpu with halted := false } } :=
  if_pos h

theorem step_of_live {s : State} (h : s.live) : step s = serviceOrRun s.wake := by
  obtain ⟨hlocked, hrefused⟩ := h
  simp [step, hlocked, hrefused]

/-! ## The choice of the source (R350) -/

theorem Source.index_lt (i : Source) : i.index < 5 := by
  cases i <;> decide

theorem getLsbD_pending (s : State) {k : Nat} (hk : k < 5) :
    s.pending.getLsbD k = (s.irq.flags.getLsbD k && s.irq.enable.getLsbD k) := by
  simp [State.pending, Irq.pending, hk]

/-- The chosen source is the one whose bit is set with every lower bit clear. -/
theorem lowestSource_eq_some {p : BitVec 5} {i : Source} (hset : p.getLsbD i.index = true)
    (hlower : ∀ k, k < i.index → p.getLsbD k = false) : lowestSource p = some i := by
  revert p
  cases i <;> decide

/-- With IME set, the source of least index that is requested and enabled is the one to service. -/
theorem toService_eq_some {s : State} {i : Source} (hime : s.cpu.ime = true)
    (hflag : s.irq.flags.getLsbD i.index = true) (henable : s.irq.enable.getLsbD i.index = true)
    (hlower : ∀ k, k < i.index → s.irq.flags.getLsbD k = false ∨ s.irq.enable.getLsbD k = false) :
    s.toService = some i := by
  have hset : s.pending.getLsbD i.index = true := by rw [getLsbD_pending s i.index_lt, hflag, henable, Bool.and_self]
  have hclear (k : Nat) (hk : k < i.index) : s.pending.getLsbD k = false := by
    rw [getLsbD_pending s (hk.trans i.index_lt), Bool.and_eq_false_iff]
    exact hlower k hk
  rw [State.toService, if_pos hime, lowestSource_eq_some hset hclear]

theorem pending_ne_zero_of_toService {s : State} {i : Source} (h : s.toService = some i) : s.pending ≠ 0 := by
  intro hzero
  rw [toService_eq_none (.inr hzero)] at h
  cases h

/-! ## The service (R351) -/

theorem vector_eq (i : Source) : i.vector = BitVec.ofNat 16 (0x40 + 8 * i.index) := (BitVec.ofNat_add _ _).symm

/-- A push and a transfer, with the registers of another CPU: the two stack writes, `pc` at the target, `k` T-cycles at
the end. -/
theorem push16_setCpu_jump (s : State) (c : Cpu) (v a : Word) (k : Nat) :
    (State.push16 { s with cpu := c } v).jump a k
      = { (s.pushed c.sp v).advance k with cpu := { c with sp := c.sp - 2, pc := a } } := by
  rw [jump_eq, push16_eq, memWrite_setCpu s c, memWrite_setCpu (s.memWrite _ _) c, advance_setCpu, advance_setCpu]
  rfl

/-- A service, with the registers of another CPU: the source's IF bit is cleared before the two stack writes of `pc`,
and the vector is taken after them. -/
theorem service_setCpu (s : State) (c : Cpu) (i : Source) :
    State.service { s with cpu := c } i
      = { (State.pushed { s with irq := s.irq.acknowledge i } c.sp c.pc).advance 12 with
        cpu := { c with ime := false, haltBug := false, sp := c.sp - 2, pc := i.vector } } :=
  push16_setCpu_jump { s with irq := s.irq.acknowledge i } { c with ime := false, haltBug := false } c.pc i.vector 12

theorem step_of_toService {s : State} {i : Source} (hlive : s.live) (h : s.wake.toService = some i) :
    step s = .next (s.wake.service i) := by
  rw [step_of_live hlive, serviceOrRun, h]

/-- Settles O32: the wake clears the halt, as the chosen source is pending, and the step is `service_setCpu`. -/
theorem interruptService : Obligations.InterruptService := by
  intro s i hlive hime hflag henable hlower u
  have hsource : s.toService = some i := toService_eq_some hime hflag henable hlower
  have hwake := wake_of_pending (pending_ne_zero_of_toService hsource)
  rw [step_of_toService hlive (by rw [hwake]; exact hsource), hwake, service_setCpu, vector_eq]
  rfl

/-! ## The halted step (R341, R342) -/

theorem step_of_idle {s : State} (hlive : s.live) (hhalted : s.cpu.halted = true) (hpending : s.pending = 0) :
    step s = .next (s.advance 4) := by
  rw [step_of_live hlive, wake_of_not_pending hpending, serviceOrRun, toService_eq_none (.inr hpending)]
  exact if_pos hhalted

/-- The wake leaves the marks that end the machine, so a step from a halt is the step from where the wake leads. -/
theorem step_of_pending {s : State} (hpending : s.pending ≠ 0) :
    step s = step { s with cpu := { s.cpu with halted := false } } := by
  rw [step, step, wake_of_pending hpending, wake_of_not_halted rfl]

/-- Settles O33: with nothing pending the wake does nothing and the step idles; else the wake clears the halt. -/
theorem haltedStep : Obligations.HaltedStep :=
  fun _ hhalted => ⟨fun hlive hpending => step_of_idle hlive hhalted hpending, step_of_pending⟩

/-! ## The buttons (R412) -/

theorem requestIf_eq (q : Irq) (cond : Bool) (i : Source) :
    q.requestIf cond i = { q with flags := if cond then q.flags ||| (1#5 <<< i.index) else q.flags } := by
  cases cond <;> rfl

theorem setButtons_eq (s : State) (mask : Byte) : s.setButtons mask = { s with
    joypad := { s.joypad with buttons := mask }
    irq := { s.irq with
      flags := if mask &&& ~~~s.joypad.buttons ≠ 0 then s.irq.flags ||| 0b10000#5 else s.irq.flags } } := by
  rw [State.setButtons, requestIf_eq]
  simp only [decide_eq_true_eq]
  rfl

/-! ## The image of external RAM (R372)

An image in canonical form is taken pair by pair, each above those before it. -/

/-- A value other than the unlisted one, stored above every key, stands last. -/
theorem Cells.write_of_below {n k : Nat} {v : BitVec n} {m : List (Nat × BitVec n)} (hm : Cells.below k m = true)
    (hv : v ≠ unlisted n) : Cells.write m k v = m ++ [(k, v)] := by
  induction m with
  | nil => exact if_neg hv
  | cons c m ih =>
    obtain ⟨a, w⟩ := c
    obtain ⟨ha, hrest⟩ : a < k ∧ Cells.below k m = true := by
      simpa only [Cells.below, List.all_cons, Bool.and_eq_true, decide_eq_true_eq] using hm
    rw [Cells.write, if_neg (by omega), if_neg (by omega), ih hrest, List.cons_append]

theorem Cells.below_mono {n lo hi : Nat} {m : List (Nat × BitVec n)} (hm : Cells.below lo m = true) (h : lo ≤ hi) :
    Cells.below hi m = true := by
  simp only [Cells.below, List.all_eq_true, decide_eq_true_eq] at hm ⊢
  exact fun c hc => (hm c hc).trans_le h

theorem Cells.below_append_singleton {n k : Nat} {v : BitVec n} {m : List (Nat × BitVec n)}
    (hm : Cells.below k m = true) : Cells.below (k + 1) (m ++ [(k, v)]) = true := by
  have hlast : Cells.below (k + 1) [(k, v)] = true := by simp [Cells.below]
  rw [Cells.below, List.all_append, Bool.and_eq_true]
  exact ⟨Cells.below_mono hm (Nat.le_succ k), hlast⟩

/-- A canonical list stored pair by pair above every key of `m` follows `m` as it stands. -/
theorem Cells.foldl_write_of_below {n lo : Nat} {l m : List (Nat × BitVec n)} (hl : Cells.wfAbove lo l = true)
    (hm : Cells.below lo m = true) : l.foldl (fun m c => Cells.write m c.1 c.2) m = m ++ l := by
  induction l generalizing lo m with
  | nil => exact (List.append_nil m).symm
  | cons c l ih =>
    obtain ⟨k, v⟩ := c
    obtain ⟨⟨hk, hv⟩, hrest⟩ : (lo ≤ k ∧ v ≠ unlisted n) ∧ Cells.wfAbove (k + 1) l = true := by
      simpa only [Cells.wfAbove, Bool.and_eq_true, decide_eq_true_eq] using hl
    have hbelow : Cells.below k m = true := Cells.below_mono hm hk
    rw [List.foldl_cons, Cells.write_of_below hbelow hv, ih hrest (Cells.below_append_singleton hbelow),
      List.append_assoc, List.singleton_append]

/-- A canonical list is its own canonical form. -/
theorem Cells.ofList_of_wf {n : Nat} {l : List (Nat × BitVec n)} (h : Cells.wf l = true) : Cells.ofList l = l :=
  Cells.foldl_write_of_below h rfl

theorem replaceEram_eram (s : State) {image : List Host.Cell} (hwf : Cells.wf image = true)
    (hbelow : Cells.below (s.cfg.ramBanks * 0x2000) image = true) : (s.replaceEram image).mem.eram = image := by
  have hall : image.filter (fun c => decide (c.1 < s.cfg.ramBanks * 0x2000)) = image :=
    List.filter_eq_self.2 (List.all_eq_true.1 hbelow)
  unfold State.replaceEram
  rw [hall]
  exact Cells.ofList_of_wf hwf

/-! ## The invariant under the host's actions -/

theorem State.Inv.setButtons {s : State} (h : s.Inv) (mask : Byte) : (s.setButtons mask).Inv := { h with }

theorem State.Inv.takeFrame {s : State} (h : s.Inv) : s.takeFrame.2.Inv := { h with ppu := { h.ppu with } }

theorem State.Inv.drainAudio {s : State} (h : s.Inv) : s.drainAudio.2.Inv := { h with apu := { h.apu with } }

theorem State.Inv.replaceEram {s : State} (h : s.Inv) (image : List Host.Cell) : (s.replaceEram image).Inv :=
  { h with mem := replaceEram_mem_wf s h.mem image }

/-- Settles O60: only a new image of external RAM touches what the invariant speaks of, and its form is kept. -/
theorem hostKeepsInvariant : Obligations.HostKeepsInvariant := by
  intro s mask image h
  exact ⟨⟨h.setButtons mask, h.takeFrame, h.drainAudio, h.replaceEram image⟩, setButtons_eq s mask, rfl, rfl, rfl,
    replaceEram_eram s⟩

end Sys2Proof.Machine
end

section
/-! PROOFS. The timer, the serial stub and the joypad port (61_timer_dma_serial_joypad.md R380 to R388, R406, R410 to
R412). -/

namespace Sys2Proof.Machine

open Sys2Proof

/-! ## The timer (R383 to R388) -/

theorem Timer.selectedBit_eq (tm : Timer) : tm.selectedBit = [9, 3, 5, 7].getD (tm.tac.toNat % 4) 0 := by
  unfold Timer.selectedBit
  generalize tm.tac = x
  revert x
  decide

/-- An increment of 0xFF wraps to 0x00 and leaves a pending reload (R385). -/
theorem Timer.increment_eq (tm : Timer) : tm.increment =
    { tm with tima := tm.tima + 1, reloadPending := tm.reloadPending || decide (tm.tima = 0xFF) } := by
  unfold Timer.increment
  split <;> next h => simp [h]

theorem Timer.reload_eq (tm : Timer) : tm.reload =
    { tm with tima := if tm.reloadPending then tm.tma else tm.tima, reloadPending := false } := by
  obtain ⟨_, _, _, _, pending⟩ := tm
  cases pending <;> rfl

/-- An increment where a condition holds. -/
theorem Timer.incrementIf_eq (tm : Timer) (cond : Bool) : (if cond then tm.increment else tm) =
    { tm with
      tima := if cond then tm.tima + 1 else tm.tima
      reloadPending := tm.reloadPending || (cond && decide (tm.tima = 0xFF)) } := by
  cases cond
  · simp
  · simp [Timer.increment_eq]

/-- Settles O41: the tick is the reload and then the count, with an increment where the selected bit falls. -/
theorem timerTick : Obligations.TimerTick := by
  intro s bit base falls
  have hfalls : (s.timer.reload.counting && s.timer.reload.divcnt.getLsbD s.timer.reload.selectedBit
      && !(s.timer.reload.divcnt + 1).getLsbD s.timer.reload.selectedBit) = falls := by
    rw [Timer.selectedBit_eq, Timer.reload_eq]
    rfl
  have hcount := Timer.incrementIf_eq { s.timer.reload with divcnt := s.timer.reload.divcnt + 1 } falls
  rw [← hfalls] at hcount
  unfold State.timerTick Timer.tick Timer.count
  rw [requestIf_eq, hcount, hfalls, Timer.reload_eq]
  rfl

/-- Settles O42: each register is one arm of the write; DIV's is an increment where the selected bit was 1. -/
theorem timerWrites : Obligations.TimerWrites := by
  intro s v bit falls
  have hdiv : s.timer.writeDiv = { s.timer with
      divcnt := 0, tima := if falls then s.timer.tima + 1 else s.timer.tima
      reloadPending := s.timer.reloadPending || (falls && decide (s.timer.tima = 0xFF)) } := by
    have hfalls : (s.timer.counting && s.timer.divcnt.getLsbD s.timer.selectedBit) = falls := by
      rw [Timer.selectedBit_eq]
      rfl
    rw [Timer.writeDiv, hfalls, Timer.incrementIf_eq]
  have hread : ∀ x : Byte, 0b11111#5 ++ x.setWidth 3 = 0xF8#8 ||| x := by decide
  refine ⟨congrArg (fun tm => { s with timer := tm }) hdiv, rfl, rfl, ?_, hread v⟩
  exact congrArg (fun x => { s with timer := { s.timer with tac := x } }) (setWidth_eq_ofNat_mod 3 v)

/-! ## The serial stub (R406) -/

/-- Settles O43: the two clauses are the two values of `startsTransfer`. -/
theorem serialTransfer : Obligations.SerialTransfer := by
  intro s v
  have hwrite : s.busWrite 0xFF02 v = s.writeSerialControl v := rfl
  rw [hwrite, State.writeSerialControl, Serial.writeControl, requestIf_eq]
  refine ⟨fun h7 h0 => ?_, fun h => ?_⟩
  · have hstart : startsTransfer v = true := by rw [startsTransfer, h7, h0, Bool.and_self]
    rw [hstart]
    rfl
  · have hstart : startsTransfer v = false := by
      rw [startsTransfer, ← Bool.not_eq_true, Bool.and_eq_true]
      exact h
    rw [hstart]
    rfl

/-! ## The joypad port (R410 to R412) -/

/-- A line of P1 is low exactly where a selected group has its button pressed. -/
theorem Joypad.getLsbD_read (j : Joypad) (k : Fin 4) : j.read.getLsbD k.val =
    !((!j.select.getLsbD 0 && j.buttons.getLsbD ([3, 2, 0, 1].getD k.val 0))
      || (!j.select.getLsbD 1 && j.buttons.getLsbD (k.val + 4))) := by
  have hread : j.read.getLsbD k.val = j.lines.getLsbD k.val := by
    rw [Joypad.read, BitVec.getLsbD_append, if_pos k.isLt]
  have hdir : ∀ (b : Byte) (k : Fin 4),
      (b.extractLsb' 1 1 ++ b.extractLsb' 0 1 ++ b.extractLsb' 2 1 ++ b.extractLsb' 3 1).getLsbD k.val
        = b.getLsbD ([3, 2, 0, 1].getD k.val 0) := by decide
  have hact : ∀ (b : Byte) (k : Fin 4), (b.extractLsb' 4 4).getLsbD k.val = b.getLsbD (k.val + 4) := by decide
  have hones : ∀ k : Fin 4, (0xF#4)[k.val] = true := by decide
  rw [hread, ← hdir, ← hact, Joypad.lines, Joypad.directions, Joypad.actions]
  cases j.select.getLsbD 0 <;> cases j.select.getLsbD 1 <;> simp [hones]

/-- Settles O44: the lines of P1 bit by bit, its upper nibble as two fields, and the host's buttons. -/
theorem joypadPort : Obligations.JoypadPort := by
  intro s v
  refine ⟨rfl, s.joypad.getLsbD_read, ?_, setButtons_eq s v⟩
  show s.joypad.read.extractLsb' 4 4 = _
  unfold Joypad.read
  generalize s.joypad.lines = l
  generalize s.joypad.select = x
  revert l x
  decide

end Sys2Proof.Machine
end

section
/-! PROOFS. The OAM transfer (61_timer_dma_serial_joypad.md R395 to R397): one tick of the engine by its three cases, and
where engine and OAM stand `k` ticks into a transfer. -/

namespace Sys2Proof.Machine

open Sys2Proof

/-! ## One tick -/

theorem dmaTick_of_idle {s : State} (h : s.dma.active = false) : s.dmaTick = s := by
  simp [State.dmaTick, Dma.tick, Dma.copies, h]

theorem dmaTick_of_counting {s : State} (h : s.dma.active = true) (hsub : s.dma.sub ≠ 3) :
    s.dmaTick = { s with dma := { s.dma with sub := s.dma.sub + 1 } } := by
  simp [State.dmaTick, Dma.tick, Dma.copies, h, hsub]

theorem dmaTick_of_copying {s : State} (h : s.dma.active = true) (hsub : s.dma.sub = 3) :
    s.dmaTick = { s with
      dma := { s.dma with sub := 0, remaining := s.dma.remaining - 1, active := decide (s.dma.remaining - 1 ≠ 0) }
      mem := { s.mem with oam := Cells.write s.mem.oam s.dma.index (s.busRead s.dma.source) } } := by
  simp [State.dmaTick, Dma.tick, Dma.copies, h, hsub]

/-- The source address as a number: the page, and the index in it (R396). -/
theorem Dma.source_eq (d : Dma) : d.source = BitVec.ofNat 16 (d.src.toNat * 256 + d.index) := by
  have hpage : joinBytes 0 d.src = BitVec.ofNat 16 (d.src.toNat * 256) := by
    apply BitVec.eq_of_toNat_eq
    rw [toNat_joinBytes, BitVec.toNat_ofNat]
    have := d.src.isLt
    simp
    omega
  rw [Dma.source, hpage, BitVec.ofNat_add]

/-! ## The engine in the course of a transfer -/

/-- The engine `k` ticks into a transfer from page `v`. -/
def Dma.after (v : Byte) (k : Nat) : Dma :=
  { active := decide (k < 640), src := v, remaining := 160 - k / 4, sub := k % 4 }

theorem Dma.tick_after (v : Byte) {k : Nat} (h : k < 640) : (Dma.after v k).tick = Dma.after v (k + 1) := by
  unfold Dma.tick Dma.copies Dma.after
  by_cases hsub : k % 4 = 3
  · have hlast : 160 - k / 4 - 1 = 0 ↔ ¬ k + 1 < 640 := by omega
    simp only [h, hsub, decide_true, Bool.and_self, if_true, Dma.mk.injEq, true_and, ne_eq, hlast, not_not]
    omega
  · have hnext : k % 4 + 1 ≠ 4 := by omega
    have hmore : k + 1 < 640 := by omega
    simp only [h, hnext, hmore, decide_true, decide_false, Bool.and_false, Bool.false_eq_true, if_false, if_true,
      Dma.mk.injEq, true_and]
    omega

theorem Dma.copies_after (v : Byte) {k : Nat} (h : k < 640) : (Dma.after v k).copies = decide (k % 4 = 3) := by
  simp [Dma.copies, Dma.after, h]

theorem Dma.index_after (v : Byte) {k : Nat} (h : k ≤ 640) : (Dma.after v k).index = k / 4 := by
  simp only [Dma.index, Dma.after]
  omega

theorem advance_succ_tick (n : Nat) (s : State) : s.advance (n + 1) = (s.advance n).tick :=
  (advance_advance n 1 s).symm

section
variable {s : State} {v : Byte} (hstart : s.dma = Dma.start v)
include hstart

theorem advance_dma_after {k : Nat} (hk : k ≤ 640) : (s.advance k).dma = Dma.after v k := by
  induction k with
  | zero => exact hstart
  | succ k ih => rw [advance_succ_tick, tick_dma, ih (by omega), Dma.tick_after v (by omega)]

/-- A transfer is busy for 639 ticks and idle after the 640th (R397). -/
theorem advance_dma_active {k : Nat} (hk : k ≤ 640) : (s.advance k).dma.active = decide (k < 640) := by
  rw [advance_dma_after hstart hk, Dma.after]

end

/-! ## The page in OAM -/

/-- Below OAM the bus shows no register of the timer, the engine and the interrupt controller. -/
theorem busRead_setDevices (s : State) (timer : Timer) (dma : Dma) (irq : Irq) {a : Word} (h : a.toNat < 0xFE00) :
    State.busRead { s with timer := timer, dma := dma, irq := irq } a = s.busRead a := by
  have hc := regionOf_covers a
  unfold State.busRead
  generalize regionOf a = r at hc ⊢
  cases r
  case io | ie => simp only [Region.Covers] at hc; omega
  all_goals rfl

/-- OAM after a tick: the byte that the tick copies, where it copies one. -/
theorem tick_oam (s : State) (h : s.dma.source.toNat < 0xFE00) : s.tick.mem.oam =
    if s.dma.copies then Cells.write s.mem.oam s.dma.index (s.busRead s.dma.source) else s.mem.oam := by
  show (if s.dma.copies then Cells.write s.mem.oam s.dma.index (s.timerTick.busRead s.dma.source) else s.mem.oam) = _
  rw [State.timerTick, busRead_setDevices s _ s.dma _ h]

/-- Byte `i` of a page below 0xFE is in OAM from tick `4 (i + 1)` of the transfer on (R396, R397). -/
theorem read_oam_advance {s : State} {v : Byte} (hstart : s.dma = Dma.start v) (hinv : s.MemInv) (hv : v.toNat < 0xFE)
    {k i : Nat} (hi : i < 160) (hik : 4 * (i + 1) ≤ k) (hk : k ≤ 640) :
    Cells.read (s.advance k).mem.oam i = s.busRead (BitVec.ofNat 16 (v.toNat * 256 + i)) := by
  induction k with
  | zero => omega
  | succ k ih =>
    have hdma : (s.advance k).dma = Dma.after v k := advance_dma_after hstart (by omega)
    have hindex : (s.advance k).dma.index = k / 4 := by rw [hdma, Dma.index_after v (by omega)]
    have hsource : (s.advance k).dma.source = BitVec.ofNat 16 (v.toNat * 256 + k / 4) := by
      rw [Dma.source_eq, hindex, hdma, Dma.after]
    have hlow : (BitVec.ofNat 16 (v.toNat * 256 + k / 4)).toNat < 0xFE00 := by
      rw [BitVec.toNat_ofNat]
      omega
    have hform : Cells.wf (s.advance k).mem.oam = true :=
      State.MemInv.oam (advance_mem_wf k s hinv fun _ => hstart ▸ Nat.zero_lt_succ 159)
    rw [advance_succ_tick, tick_oam _ (hsource ▸ hlow), hindex, hsource, hdma, Dma.copies_after v (by omega)]
    by_cases hcopy : k % 4 = 3
    · rw [decide_eq_true hcopy, if_pos rfl, Cells.read_write hform]
      by_cases hnow : i = k / 4
      · rw [if_pos hnow, hnow]
        exact advance_busRead k s (by omega) fun hoam => by unfold inOam at hoam; omega
      · rw [if_neg hnow]
        exact ih (by omega) (by omega)
    · rw [decide_eq_false hcopy]
      exact ih (by omega) (by omega)

/-- Settles O40: the tick by its cases; the engine's state at every tick of a transfer; OAM by induction on the ticks. -/
theorem dmaCopiesPage : Obligations.DmaCopiesPage := by
  intro s v d n u
  have hu : u = { s with dma := Dma.start v } := rfl
  have hstart : u.dma = Dma.start v := rfl
  refine ⟨dmaTick_of_idle, dmaTick_of_counting, ?_, ⟨?_, advance_dma_active hstart (Nat.le_refl 640)⟩, ?_⟩
  · intro h hsub hleft
    refine ⟨Cells.write s.mem.oam n (s.busRead d.source), ?_, ?_⟩
    · have hlast : d.remaining - 1 ≠ 0 ↔ d.remaining ≠ 1 := by omega
      rw [dmaTick_of_copying h hsub]
      simp only [d, n, hlast, Dma.index]
    · intro hinv k
      rw [Cells.read_write hinv.oam, Dma.source_eq]
      rfl
  · intro k hk
    rw [advance_dma_active hstart hk.le, decide_eq_true hk]
  · intro hinv hv k i hi hik hk
    have hcell : regionOf (BitVec.ofNat 16 (0xFE00 + i)) = .oam i := by
      have hnat : (BitVec.ofNat 16 (0xFE00 + i)).toNat = 0xFE00 + i := by
        rw [BitVec.toNat_ofNat]
        omega
      rw [regionOf_oam (by omega) (by omega), hnat, Nat.add_sub_cancel_left]
    have hlow : (BitVec.ofNat 16 (v.toNat * 256 + i)).toNat < 0xFE00 := by
      rw [BitVec.toNat_ofNat]
      omega
    rw [busRead_oam _ hcell, read_oam_advance hstart hinv hv hi hik hk, hu]
    exact busRead_setDevices s s.timer (Dma.start v) s.irq hlow

end Sys2Proof.Machine
end

section
/-! PROOFS. A tick of the PPU as one equation, its position over any number of ticks, and the line it draws
(62_ppu.md R421, R422, R424, R433, R434, R436). -/

namespace Sys2Proof.Machine

open Sys2Proof

/-! ## Requests (R349) -/

/-- A request sets the bit of its source, and no other. -/
theorem getLsbD_requestIf (q : Irq) (cond : Bool) (i : Source) (k : Nat) :
    (q.requestIf cond i).flags.getLsbD k = (q.flags.getLsbD k || (cond && decide (k = i.index))) := by
  have hbit : (1#5 <<< i.index).getLsbD k = decide (k = i.index) := by
    have hi := i.index_lt
    rw [BitVec.getLsbD_shiftLeft, BitVec.getLsbD_one, Bool.eq_iff_iff]
    simp only [Bool.and_eq_true, decide_eq_true_eq, Bool.not_eq_true', decide_eq_false_iff_not]
    omega
  cases cond
  · simp [requestIf_eq]
  · simp [requestIf_eq, hbit]

/-! ## The parts of a tick (R421) -/

/-- The line after a tick. -/
def Ppu.lyAfter (p : Ppu) : Nat := if p.dot = 455 then (p.ly + 1) % 154 else p.ly

/-- The dot after a tick. -/
def Ppu.dotAfter (p : Ppu) : Nat := (p.dot + 1) % 456

/-- The mode that a tick reaching line `ly`, dot `dot` leaves (R422). -/
def Ppu.modeAfter (p : Ppu) (ly dot : Nat) : Mode :=
  if 144 ≤ ly then (if ly = 144 ∧ dot = 0 then .vblank else p.mode)
  else if dot = 0 then .oamScan else if dot = 80 then .pixelTransfer
  else if dot = 80 + p.mode3Len then .hblank else p.mode

/-- A tick reaching this position selects the sprites of the line (R433). -/
def selectsAt (ly dot : Nat) : Bool := decide (ly < 144) && decide (dot = 80)

theorem Ppu.nextDot_eq (p : Ppu) (h : p.dot < 456) : p.nextDot = { p with ly := p.lyAfter, dot := p.dotAfter } := by
  unfold Ppu.nextDot Ppu.lyAfter Ppu.dotAfter
  by_cases hend : p.dot = 455
  · simp [hend]
  · have hmod : (p.dot + 1) % 456 = p.dot + 1 := Nat.mod_eq_of_lt (by omega)
    simp [hend, hmod]

theorem Ppu.drawDot_eq (p : Ppu) (vram oam : Memory) :
    p.drawDot vram oam = { p with fb := (p.drawDot vram oam).fb } := by
  unfold Ppu.drawDot
  split <;> rfl

theorem Ppu.transition_eq (p : Ppu) (oam : Memory) (table : List Nat) : p.transition oam table = { p with
    mode := p.modeAfter p.ly p.dot
    lineSprites := if selectsAt p.ly p.dot then p.selectSprites oam else p.lineSprites
    mode3Len := if selectsAt p.ly p.dot then 172 + p.mode3Extra table (p.selectSprites oam).length else p.mode3Len
    frameReady := p.frameReady || (decide (p.ly = 144) && decide (p.dot = 0)) } := by
  unfold Ppu.transition Ppu.modeAfter selectsAt
  by_cases hlate : 144 ≤ p.ly
  · have hnot : ¬ p.ly < 144 := by omega
    by_cases hfirst : p.ly = 144 ∧ p.dot = 0
    · simp [hfirst]
    · simp only [hlate, hnot, hfirst, ← Bool.decide_and, if_true, if_false, decide_false, Bool.false_and, Bool.or_false]
      rfl
  · have hlt : p.ly < 144 := by omega
    have hne : p.ly ≠ 144 := by omega
    by_cases h0 : p.dot = 0
    · simp [hlate, hne, h0]
    · by_cases h80 : p.dot = 80
      · simp [hlate, hlt, hne, h80]
      · simp only [hlate, hlt, hne, h0, h80, if_false, decide_false, decide_true, Bool.and_false, Bool.or_false,
          Bool.false_eq_true]
        split <;> rfl

/-- The PPU before the STAT line of a tick, field by field. -/
theorem Ppu.moved_eq (p : Ppu) (h : p.dot < 456) (vram oam : Memory) (table : List Nat) : p.moved vram oam table = { p with
    ly := p.lyAfter
    dot := p.dotAfter
    mode := p.modeAfter p.lyAfter p.dotAfter
    lineSprites := if selectsAt p.lyAfter p.dotAfter then p.selectSprites oam else p.lineSprites
    mode3Len := if selectsAt p.lyAfter p.dotAfter then 172 + p.mode3Extra table (p.selectSprites oam).length
      else p.mode3Len
    frameReady := p.frameReady || (decide (p.lyAfter = 144) && decide (p.dotAfter = 0))
    fb := (p.drawDot vram oam).fb } := by
  have hly : selectsAt p.lyAfter p.dotAfter = true → p.lyAfter = p.ly := by
    unfold selectsAt Ppu.lyAfter Ppu.dotAfter
    simp only [Bool.and_eq_true, decide_eq_true_eq]
    intro hs
    rw [if_neg (by omega)]
  have hdrawn : (p.drawDot vram oam).dot < 456 := by rw [Ppu.drawDot_eq]; exact h
  have hnext : (p.drawDot vram oam).nextDot =
      { p with ly := p.lyAfter, dot := p.dotAfter, fb := (p.drawDot vram oam).fb } := by
    rw [Ppu.nextDot_eq _ hdrawn, Ppu.drawDot_eq]
    rfl
  rw [Ppu.moved, hnext, Ppu.transition_eq]
  cases hs : selectsAt p.lyAfter p.dotAfter
  · rfl
  · rw [hly hs]
    rfl

/-! ## The position (R424, R436) -/

theorem Ppu.tick_of_on {p : Ppu} (hon : p.lcdOn = true) (vram oam : Memory) (table : List Nat) :
    p.tick vram oam table = (p.moved vram oam table).updateStatLine := if_pos hon

theorem Ppu.tick_of_off {p : Ppu} (hoff : p.lcdOn = false) (vram oam : Memory) (table : List Nat) :
    p.tick vram oam table = p := if_neg (by rw [hoff]; decide)

theorem ppuTick_of_off {s : State} (hoff : s.ppu.lcdOn = false) : s.ppuTick = s := by
  simp [State.ppuTick, Ppu.tick, Ppu.entersVBlank, Ppu.raisesStat, hoff, Irq.requestIf]

/-- A tick requests VBlank and STAT, and nothing else. -/
theorem ppuTick_flags (s : State) (k : Nat) : s.ppuTick.irq.flags.getLsbD k =
    (s.irq.flags.getLsbD k || (s.ppu.entersVBlank && decide (k = 0))
      || (s.ppu.raisesStat s.mem.vram s.mem.oam s.cfg.mode3Extra && decide (k = 1))) := by
  rw [State.ppuTick, getLsbD_requestIf, getLsbD_requestIf]
  rfl

/-- The PPU's tick sees OAM as the transfer's tick leaves it (20_memory.md R100). -/
theorem tick_ppu (s : State) : s.tick.ppu = s.ppu.tick s.mem.vram s.tick.mem.oam s.cfg.mode3Extra := rfl

section
variable {p : Ppu} (hly : p.ly < 154) (hdot : p.dot < 456)
include hly hdot

/-- A frame is 154 lines of 456 dots. -/
theorem Ppu.positionAfter_eq : p.lyAfter * 456 + p.dotAfter = (p.position + 1) % 70224 := by
  unfold Ppu.lyAfter Ppu.dotAfter Ppu.position
  split <;> omega

theorem Ppu.tick_inFrame (hon : p.lcdOn = true) (vram oam : Memory) (table : List Nat) :
    (p.tick vram oam table).ly < 154 ∧ (p.tick vram oam table).dot < 456 ∧ (p.tick vram oam table).lcdOn = true
      ∧ (p.tick vram oam table).position = (p.position + 1) % 70224 := by
  rw [Ppu.tick_of_on hon, Ppu.moved_eq p hdot]
  refine ⟨?_, Nat.mod_lt _ (by decide), hon, Ppu.positionAfter_eq hly hdot⟩
  show p.lyAfter < 154
  unfold Ppu.lyAfter
  split <;> omega

end

theorem advance_position {s : State} (hly : s.ppu.ly < 154) (hdot : s.ppu.dot < 456) (hon : s.ppu.lcdOn = true) (n : Nat) :
    (s.advance n).ppu.position = (s.ppu.position + n) % 70224 ∧ (s.advance n).ppu.lcdOn = true := by
  induction n generalizing s with
  | zero =>
    have : s.ppu.position < 70224 := by
      unfold Ppu.position
      omega
    rw [advance_zero, Nat.add_zero, Nat.mod_eq_of_lt this]
    exact ⟨rfl, hon⟩
  | succ n ih =>
    obtain ⟨hly', hdot', hon', hpos⟩ := Ppu.tick_inFrame hly hdot hon s.mem.vram s.tick.mem.oam s.cfg.mode3Extra
    rw [← tick_ppu] at hly' hdot' hon' hpos
    obtain ⟨hrest, hlcd⟩ := ih hly' hdot' hon'
    refine ⟨?_, hlcd⟩
    rw [advance_succ, hrest, hpos]
    omega

theorem advance_ppu_of_off {s : State} (hoff : s.ppu.lcdOn = false) (n : Nat) : (s.advance n).ppu = s.ppu := by
  induction n generalizing s with
  | zero => rfl
  | succ n ih =>
    have htick : s.tick.ppu = s.ppu := (tick_ppu s).trans (Ppu.tick_of_off hoff _ _ _)
    rw [advance_succ, ih (htick ▸ hoff), htick]

/-- Settles O45: a tick moves the position one dot on in the frame, and the position is that of line 144, dot 0, exactly
where the tick enters VBlank. -/
theorem ppuPosition : Obligations.PpuPosition := by
  intro s n hly hdot
  refine ⟨fun hon => ?_, fun hoff => ⟨advance_ppu_of_off hoff n, by rw [ppuTick_of_off hoff]⟩⟩
  obtain ⟨hpos, hlcd⟩ := advance_position hly hdot hon n
  have hppu : s.ppuTick.ppu = (s.ppu.moved s.mem.vram s.mem.oam s.cfg.mode3Extra).updateStatLine :=
    Ppu.tick_of_on hon _ _ _
  rw [Ppu.moved_eq _ hdot] at hppu
  have hvblank : s.ppuTick.ppu.position = 65664 ↔ s.ppu.lyAfter = 144 ∧ s.ppu.dotAfter = 0 := by
    rw [hppu]
    show s.ppu.lyAfter * 456 + s.ppu.dotAfter = 65664 ↔ _
    have : s.ppu.dotAfter < 456 := Nat.mod_lt _ (by decide)
    omega
  refine ⟨hpos, hlcd, ?_, fun h => ?_⟩
  · rw [ppuTick_flags, Ppu.entersVBlank, hon, Ppu.nextDot_eq _ hdot, Bool.true_and, ← Bool.decide_and]
    simp [hvblank]
  · obtain ⟨h144, h0⟩ := hvblank.1 h
    rw [hppu]
    simp [Ppu.updateStatLine, Ppu.modeAfter, h144, h0]

/-! ## The picture (R421, R434) -/

theorem Ppu.windowOnLine_toNat (p : Ppu) : p.windowOnLine.toNat =
    if p.lcdc.getLsbD 5 && decide (p.wy.toNat ≤ p.ly) && decide (p.wx.toNat ≤ 166) then 1 else 0 := by
  exact Bool.cond_eq_ite _ _ _

/-- The one pixel that a dot draws. -/
theorem Ppu.read_drawDot {p : Ppu} (hform : Cells.wf p.fb = true) (vram oam : Memory) {x y : Nat} (hx : x < 160) :
    Cells.read (p.drawDot vram oam).fb (160 * y + x) =
      if p.mode = .pixelTransfer ∧ p.dot = 80 + x ∧ p.ly = y then p.pixel vram oam x y
      else Cells.read p.fb (160 * y + x) := by
  unfold Ppu.drawDot
  by_cases hdraws : p.mode = .pixelTransfer ∧ 80 ≤ p.dot ∧ p.dot < 240
  · obtain ⟨hmode, hlo, hhi⟩ := hdraws
    rw [if_pos ⟨hmode, hlo, hhi⟩, Cells.read_write hform]
    by_cases hhere : p.dot = 80 + x ∧ p.ly = y
    · obtain ⟨hdot, rfl⟩ := hhere
      have hcolumn : p.dot - 80 = x := by omega
      rw [if_pos (by rw [hcolumn]), if_pos ⟨hmode, hdot, rfl⟩, hcolumn]
    · rw [if_neg (by omega), if_neg fun h => hhere h.2]
  · rw [if_neg hdraws, if_neg]
    rintro ⟨hmode, hdot, -⟩
    exact hdraws ⟨hmode, by omega, by omega⟩

section
variable (p : Ppu) (dot : Nat) (line : Bool) (fb : List (Nat × BitVec 2)) (vram oam : Memory) (x y : Nat)

theorem Ppu.firstOpaque_setDot (l : List Nat) :
    Ppu.firstOpaque { p with dot := dot, statLine := line, fb := fb } vram oam x y l = p.firstOpaque vram oam x y l := by
  induction l with
  | nil => rfl
  | cons n rest ih =>
    rw [Ppu.firstOpaque, Ppu.firstOpaque, ih]
    rfl

/-- A pixel is read from the registers, the sprites, VRAM and OAM, and from nothing that a tick in PixelTransfer moves. -/
theorem Ppu.pixel_setDot :
    Ppu.pixel { p with dot := dot, statLine := line, fb := fb } vram oam x y = p.pixel vram oam x y := by
  rw [Ppu.pixel, Ppu.firstOpaque_setDot]
  rfl

end

/-- `q` is the PPU `p`, which was at dot 80 of PixelTransfer, with the first `k` pixels of its line drawn. -/
structure Ppu.DrawnTo (p : Ppu) (vram oam : Memory) (k : Nat) (q : Ppu) : Prop where
  frame : q = { p with dot := 80 + k, statLine := q.statLine, fb := q.fb }
  form  : Cells.wf q.fb = true
  line  : ∀ x, x < k → Cells.read q.fb (160 * p.ly + x) = p.pixel vram oam x p.ly

/-- A tick that draws moves one dot on, with mode, sprites and length as they are. -/
theorem Ppu.tick_of_drawing {q : Ppu} (hon : q.lcdOn = true) (hly : q.ly < 144) (hlo : 80 ≤ q.dot) (hhi : q.dot < 240)
    (hlen : 172 ≤ q.mode3Len) (vram oam : Memory) (table : List Nat) :
    q.tick vram oam table = Ppu.updateStatLine { q with dot := q.dot + 1, fb := (q.drawDot vram oam).fb } := by
  have hlyAfter : q.lyAfter = q.ly := if_neg (by omega)
  have hdotAfter : q.dotAfter = q.dot + 1 := Nat.mod_eq_of_lt (by omega)
  have hselects : selectsAt q.ly (q.dot + 1) = false := by
    have : q.dot + 1 ≠ 80 := by omega
    simp [selectsAt, this]
  have hmode : q.modeAfter q.ly (q.dot + 1) = q.mode := by
    rw [Ppu.modeAfter, if_neg (by omega), if_neg (by omega), if_neg (by omega), if_neg (by omega)]
  have hready : (q.frameReady || (decide (q.ly = 144) && decide (q.dot + 1 = 0))) = q.frameReady := by simp
  rw [Ppu.tick_of_on hon, Ppu.moved_eq q (by omega), hlyAfter, hdotAfter, hselects, hmode, hready]
  rfl

theorem Ppu.wf_drawDot {p : Ppu} (hform : Cells.wf p.fb = true) (vram oam : Memory) :
    Cells.wf (p.drawDot vram oam).fb = true := by
  unfold Ppu.drawDot
  split
  · exact Cells.wf_write hform
  · exact hform

theorem Ppu.DrawnTo.tick {p q : Ppu} {vram oam : Memory} {k : Nat} (h : p.DrawnTo vram oam k q) (hinv : p.Inv)
    (hon : p.lcdOn = true) (hmode : p.mode = .pixelTransfer) (hk : k < 160) (table : List Nat) :
    p.DrawnTo vram oam (k + 1) (q.tick vram oam table) := by
  obtain ⟨hframe, hform, hline⟩ := h
  have hly : p.ly < 144 := ly_lt_of_modeAt_pixelTransfer ((hinv.mode hon).symm.trans hmode)
  have hq : q.dot = 80 + k ∧ q.ly = p.ly ∧ q.mode = .pixelTransfer ∧ q.mode3Len = p.mode3Len ∧ q.lcdOn = true := by
    rw [hframe]
    exact ⟨rfl, rfl, hmode, rfl, hon⟩
  obtain ⟨hqdot, hqly, hqmode, hqlen, hqon⟩ := hq
  have hpixel (x : Nat) : q.pixel vram oam x p.ly = p.pixel vram oam x p.ly := by
    rw [hframe]
    exact p.pixel_setDot _ _ _ vram oam x p.ly
  rw [Ppu.tick_of_drawing hqon (hqly ▸ hly) (by omega) (by omega) (hqlen ▸ hinv.mode3Len.1)]
  refine ⟨?_, Ppu.wf_drawDot hform vram oam, fun x hx => ?_⟩
  · rw [hframe]
    rfl
  · show Cells.read (q.drawDot vram oam).fb (160 * p.ly + x) = _
    rw [Ppu.read_drawDot hform vram oam (by omega), hpixel]
    by_cases hnow : q.dot = 80 + x
    · rw [if_pos ⟨hqmode, hnow, hqly⟩]
    · rw [if_neg fun h => hnow h.2.1]
      exact hline x (by omega)

/-- With VRAM, OAM and the registers left alone, `k` ticks draw the first `k` pixels of the line. -/
theorem advance_drawnTo {s : State} (hinv : s.ppu.Inv) (hon : s.ppu.lcdOn = true) (hmode : s.ppu.mode = .pixelTransfer)
    (hdot : s.ppu.dot = 80) (hidle : s.dma.active = false) {k : Nat} (hk : k ≤ 160) :
    s.ppu.DrawnTo s.mem.vram s.mem.oam k (s.advance k).ppu := by
  induction k with
  | zero =>
    refine ⟨?_, hinv.fbForm.1, fun x hx => absurd hx (Nat.not_lt_zero x)⟩
    rw [Nat.add_zero, ← hdot]
    rfl
  | succ k ih =>
    have hoam : (s.advance k).tick.mem.oam = s.mem.oam := by
      rw [← advance_succ_tick]
      exact (advance_idleDma (k + 1) s hidle).2
    have hstep := (ih (by omega)).tick hinv hon hmode (by omega) (s.advance k).cfg.mode3Extra
    rw [advance_succ_tick, tick_ppu, hoam, advance_vram]
    exact hstep

/-- Settles O48: off, a tick does nothing; on, it is `Ppu.moved_eq`, the pixel it draws is that of `drawDot`, and 160 of
them draw a line. -/
theorem ppuTick : Obligations.PpuTick := by
  intro s hinv p t ly dot selects sprites window
  refine ⟨ppuTick_of_off, fun hon => ?_⟩
  have hppu : t.ppu = (p.moved s.mem.vram s.mem.oam s.cfg.mode3Extra).updateStatLine := Ppu.tick_of_on hon _ _ _
  rw [Ppu.moved_eq p hinv.dot] at hppu
  refine ⟨rfl, ?_, fun x y hx => ?_, fun hmode hdot hidle x hx => ?_⟩
  · have hextra : p.mode3Extra s.cfg.mode3Extra sprites.length =
        min 204 (s.cfg.mode3Extra.getD (sprites.length + 11 * window) 0) := by
      rw [Ppu.mode3Extra, p.windowOnLine_toNat]
    rw [hppu, hextra]
    rfl
  · have hshade : t.shade x y = Cells.read (p.drawDot s.mem.vram s.mem.oam).fb (160 * y + x) := by
      rw [State.shade, hppu]
      rfl
    rw [hshade, Ppu.read_drawDot hinv.fbForm.1 _ _ hx]
    rfl
  · exact (advance_drawnTo hinv hon hmode hdot hidle (Nat.le_refl 160)).line x hx

end Sys2Proof.Machine
end

section
/-! PROOFS. A write of LCDC by the change of its bit 7, and the STAT line after a write and after a tick (62_ppu.md R426,
R427, R437, R450, R451). -/

namespace Sys2Proof.Machine

open Sys2Proof

/-! ## A write of LCDC (R450) -/

theorem Ppu.writeLcdc_off {p : Ppu} {v : Byte} (hp : p.lcdc.getLsbD 7 = true) (hv : v.getLsbD 7 = false) :
    p.writeLcdc v = Ppu.turnOff { p with lcdc := v } := by
  simp only [Ppu.writeLcdc, Ppu.lcdOn, hp, hv]
  rfl

theorem Ppu.writeLcdc_on {p : Ppu} {v : Byte} (hp : p.lcdc.getLsbD 7 = false) (hv : v.getLsbD 7 = true) :
    p.writeLcdc v = Ppu.turnOn { p with lcdc := v } := by
  simp only [Ppu.writeLcdc, Ppu.lcdOn, hp, hv]
  rfl

theorem Ppu.writeLcdc_same {p : Ppu} {v : Byte} (h : p.lcdc.getLsbD 7 = v.getLsbD 7) :
    p.writeLcdc v = { p with lcdc := v } := by
  simp only [Ppu.writeLcdc, Ppu.lcdOn, h]
  cases v.getLsbD 7 <;> rfl

theorem Ppu.statLevel_turnOff (p : Ppu) {v : Byte} (hv : v.getLsbD 7 = false) :
    Ppu.statLevel (Ppu.turnOff { p with lcdc := v }) = false := by
  rw [Ppu.statLevel, Ppu.turnOff, Ppu.lcdOn, hv, Bool.false_and]

/-- Only switching off moves the STAT line, and it leaves it low. -/
theorem Ppu.writeLcdc_statLine (p : Ppu) (v : Byte) :
    (p.writeLcdc v).lcdc = v ∧ ((p.writeLcdc v).statLevel = true → (p.writeLcdc v).statLine = p.statLine) := by
  cases hp : p.lcdc.getLsbD 7 <;> cases hv : v.getLsbD 7
  case true.false =>
    rw [Ppu.writeLcdc_off hp hv]
    exact ⟨rfl, fun h => absurd (h.symm.trans (p.statLevel_turnOff hv)) (by decide)⟩
  case false.true =>
    rw [Ppu.writeLcdc_on hp hv]
    exact ⟨rfl, fun _ => rfl⟩
  case true.true | false.false =>
    rw [Ppu.writeLcdc_same (hp.trans hv.symm)]
    exact ⟨rfl, fun _ => rfl⟩

theorem busWrite_lcdc (s : State) (v : Byte) :
    s.busWrite 0xFF40 v = State.updateStatLine { s with ppu := s.ppu.writeLcdc v } := rfl

/-- Updating the STAT line requests STAT where the line rises, and nothing else. -/
theorem updateStatLine_flags (s : State) (k : Nat) : s.updateStatLine.irq.flags.getLsbD k =
    (s.irq.flags.getLsbD k || (s.ppu.statRises && decide (k = 1))) := by
  rw [State.updateStatLine, getLsbD_requestIf]
  rfl

theorem updateStatLine_of_low {s : State} (hline : s.ppu.statLine = false) (hlevel : s.ppu.statLevel = false) :
    s.updateStatLine = s := by
  have hrises : s.ppu.statRises = false := by rw [Ppu.statRises, hlevel, Bool.false_and]
  rw [State.updateStatLine, Ppu.updateStatLine, hlevel.trans hline.symm, hrises]
  rfl

/-- Settles O46: the write is one of three machines, and the update of the STAT line after it raises STAT at most. -/
theorem lcdSwitch : Obligations.LcdSwitch := by
  intro s v p t
  have ht : t = State.updateStatLine { s with ppu := p.writeLcdc v } := busWrite_lcdc s v
  have hppu : t.ppu = (p.writeLcdc v).updateStatLine := rfl
  refine ⟨?_, fun k hk => ?_, (p.writeLcdc_statLine v).1, fun hp hv => ?_, fun hp hv => ?_, fun h => ?_⟩
  · rw [ht, State.updateStatLine, requestIf_eq]
  · rw [ht, updateStatLine_flags]
    simp [hk]
  · have hoff : t = { s with ppu := Ppu.turnOff { p with lcdc := v } } := by
      rw [ht, Ppu.writeLcdc_off hp hv]
      exact updateStatLine_of_low rfl (p.statLevel_turnOff hv)
    have hmode : ∀ (e : BitVec 4) (same : Bool), (1#1 ++ e ++ BitVec.ofBool same ++ 0#2).extractLsb' 0 2 = 0#2 := by decide
    have hstat : (t.busRead 0xFF41).extractLsb' 0 2 = 0#2 := by
      have hlcd : t.ppu.lcdOn = false := by rw [hoff]; exact hv
      show t.ppu.readStat.extractLsb' 0 2 = 0#2
      rw [Ppu.readStat, hlcd]
      exact hmode _ _
    exact ⟨by rw [hoff]; rfl, fun x y => by rw [hoff]; rfl, by rw [hoff], hstat⟩
  · rw [hppu, Ppu.writeLcdc_on hp hv]
    rfl
  · rw [hppu, Ppu.writeLcdc_same h]
    rfl

/-! ## The STAT line (R437) -/

/-- `t` has the STAT line of its own PPU, and beside VBlank requests STAT alone, where the line rose from `s`. -/
structure StatUpdated (s t : State) : Prop where
  line    : t.ppu.statLine = t.ppu.statLevel
  request : t.irq.flags.getLsbD 1 = (s.irq.flags.getLsbD 1 || (t.ppu.statLine && !s.ppu.statLine))
  enable  : t.irq.enable = s.irq.enable
  others  : ∀ k, 2 ≤ k → t.irq.flags.getLsbD k = s.irq.flags.getLsbD k

/-- An update of the line of a PPU `p` whose line, where it matters, is that of `s`. -/
theorem statUpdated_of {s t : State} {p : Ppu} {vblank : Bool} (hppu : t.ppu = p.updateStatLine)
    (hirq : t.irq = (s.irq.requestIf vblank .vblank).requestIf p.statRises .stat)
    (hline : p.statLevel = true → p.statLine = s.ppu.statLine) : StatUpdated s t where
  line := by rw [hppu]; rfl
  request := by
    have hrise : p.statRises = (p.statLevel && !s.ppu.statLine) := by
      unfold Ppu.statRises
      cases h : p.statLevel
      · rfl
      · rw [hline h]
    rw [hirq, getLsbD_requestIf, getLsbD_requestIf, hrise, hppu]
    simp [Source.index, Ppu.updateStatLine]
  enable := by rw [hirq, requestIf_enable, requestIf_enable]
  others k hk := by
    have h0 : k ≠ 0 := by omega
    have h1 : k ≠ 1 := by omega
    rw [hirq, getLsbD_requestIf, getLsbD_requestIf]
    simp [Source.index, h0, h1]

/-- A write that leaves the line itself, followed by the update. -/
theorem statUpdated_write (s : State) {p : Ppu} (hline : p.statLevel = true → p.statLine = s.ppu.statLine) :
    StatUpdated s (State.updateStatLine { s with ppu := p }) :=
  statUpdated_of (vblank := false) rfl rfl hline

theorem Ppu.moved_statLine (p : Ppu) (vram oam : Memory) (table : List Nat) :
    (p.moved vram oam table).statLine = p.statLine := by
  rw [Ppu.moved, Ppu.transition_eq, Ppu.drawDot_eq]
  unfold Ppu.nextDot
  split <;> rfl

theorem statUpdated_ppuTick {s : State} (hon : s.ppu.lcdOn = true) : StatUpdated s s.ppuTick := by
  have hrises : s.ppu.raisesStat s.mem.vram s.mem.oam s.cfg.mode3Extra
      = (s.ppu.moved s.mem.vram s.mem.oam s.cfg.mode3Extra).statRises := by rw [Ppu.raisesStat, hon, Bool.true_and]
  refine statUpdated_of (vblank := s.ppu.entersVBlank) (Ppu.tick_of_on hon _ _ _) ?_ fun _ => Ppu.moved_statLine _ _ _ _
  rw [← hrises]
  rfl

/-- Settles O47: every update of the line is `statUpdated_of`; a write of STAT or LYC changes nothing beside it. -/
theorem statLine : Obligations.StatLine := by
  intro s v level updated written
  have hupdated {t : State} (h : StatUpdated s t) : updated t := ⟨h.line, h.request, h.enable, h.others⟩
  have hwritten (p : Ppu) (hline : p.statLine = s.ppu.statLine) :
      written p (State.updateStatLine { s with ppu := p }) := by
    refine ⟨hupdated (statUpdated_write s fun _ => hline), ?_, rfl⟩
    rw [updateStatLine_flags]
    simp
  obtain ⟨hlcdc, hline⟩ := s.ppu.writeLcdc_statLine v
  exact ⟨hupdated (statUpdated_write s hline), hlcdc, hwritten _ rfl, hwritten _ rfl,
    fun hon => hupdated (statUpdated_ppuTick hon)⟩

end Sys2Proof.Machine
end

section
/-! PROOFS. The sprites of a line and the pixel they and the background show (62_ppu.md R430, R433, R440 to R447). -/

namespace Sys2Proof.Machine

open Sys2Proof

/-! ## Sprite selection (R433) -/

/-- Entry `m` comes before entry `n` in the line's order: by X, then by index. -/
def SpriteBefore (oam : Memory) (m n : Nat) : Prop :=
  oamByte oam m 1 < oamByte oam n 1 ∨ (oamByte oam m 1 = oamByte oam n 1 ∧ m < n)

theorem insertByX_perm (oam : Memory) (n : Nat) (l : List Nat) : (insertByX oam n l).Perm (n :: l) := by
  induction l with
  | nil => exact .refl _
  | cons m rest ih =>
    unfold insertByX
    split
    · exact (ih.cons m).trans (.swap n m rest)
    · exact .refl _

/-- An entry of larger index than those in order goes in so that the order stays. -/
theorem insertByX_pairwise {oam : Memory} {n : Nat} {l : List Nat} (h : l.Pairwise (SpriteBefore oam))
    (hn : ∀ m ∈ l, m < n) : (insertByX oam n l).Pairwise (SpriteBefore oam) := by
  induction l with
  | nil => exact List.pairwise_singleton _ _
  | cons m rest ih =>
    obtain ⟨hm, hrest⟩ := List.pairwise_cons.1 h
    have hmn : m < n := hn m List.mem_cons_self
    unfold insertByX
    split
    · next hle =>
      refine List.pairwise_cons.2 ⟨fun k hk => ?_, ih hrest fun k hk => hn k (List.mem_cons_of_mem m hk)⟩
      obtain rfl | hk := List.mem_cons.1 ((insertByX_perm oam n rest).mem_iff.1 hk)
      · unfold SpriteBefore
        omega
      · exact hm k hk
    · next hgt =>
      refine List.pairwise_cons.2 ⟨fun k hk => .inl ?_, h⟩
      obtain rfl | hk := List.mem_cons.1 hk
      · omega
      · have := hm k hk
        unfold SpriteBefore at this
        omega

theorem sortByX_append_singleton (oam : Memory) (l : List Nat) (n : Nat) :
    sortByX oam (l ++ [n]) = insertByX oam n (sortByX oam l) := by simp [sortByX]

theorem sortByX_perm (oam : Memory) (l : List Nat) : (sortByX oam l).Perm l := by
  induction l using List.reverseRecOn with
  | nil => exact .refl _
  | append_singleton l n ih =>
    rw [sortByX_append_singleton]
    exact (insertByX_perm oam n _).trans ((ih.cons n).trans (List.perm_append_singleton n l).symm)

/-- Entries in OAM order are sorted by X and then by index. -/
theorem sortByX_pairwise {oam : Memory} {l : List Nat} (h : l.Pairwise (· < ·)) :
    (sortByX oam l).Pairwise (SpriteBefore oam) := by
  induction l using List.reverseRecOn with
  | nil => exact .nil
  | append_singleton l n ih =>
    obtain ⟨hl, -, hn⟩ := List.pairwise_append.1 h
    rw [sortByX_append_singleton]
    exact insertByX_pairwise (ih hl) fun m hm => hn m ((sortByX_perm oam l).mem_iff.1 hm) n (List.mem_singleton_self n)

/-- What the first `k` of an increasing list leave out comes after all `k` of them. -/
theorem lt_of_not_mem_take {l : List Nat} (h : l.Pairwise (· < ·)) {k n : Nat} (hn : n ∈ l) (hout : n ∉ l.take k) :
    (l.take k).length = k ∧ ∀ m ∈ l.take k, m < n := by
  rw [← List.take_append_drop k l, List.pairwise_append] at h
  rw [← List.take_append_drop k l, List.mem_append] at hn
  obtain ⟨-, -, hlt⟩ := h
  have hdrop : n ∈ l.drop k := hn.resolve_left hout
  have hlong : k < l.length := by
    by_contra hshort
    rw [List.drop_of_length_le (by omega)] at hdrop
    cases hdrop
  exact ⟨List.length_take_of_le hlong.le, fun m hm => hlt m hm n hdrop⟩

theorem Ppu.covers_iff (p : Ppu) (oam : Memory) (n : Nat) : p.covers oam n = true ↔
    oamByte oam n 0 ≤ p.ly + 16 ∧ p.ly + 16 < oamByte oam n 0 + p.spriteHeight := by
  rw [Ppu.covers, Bool.and_eq_true, decide_eq_true_eq, decide_eq_true_eq]

/-- Settles O49: the selection is a permutation of the first ten covering entries, whose order in OAM gives the rest. -/
theorem spriteSelection : Obligations.SpriteSelection := by
  intro p oam covers x sel
  have hperm : sel.Perm (((List.range 40).filter (p.covers oam)).take 10) := sortByX_perm oam _
  have hsorted : ((List.range 40).filter (p.covers oam)).Pairwise (· < ·) := List.pairwise_lt_range.filter _
  have hcovers (n : Nat) : n ∈ (List.range 40).filter (p.covers oam) ↔ covers n := by
    rw [List.mem_filter, List.mem_range, Ppu.covers_iff]
    rfl
  refine ⟨?_, fun n hn => ?_, sortByX_pairwise (hsorted.sublist (List.take_sublist 10 _)), fun n hn hout => ?_⟩
  · exact hperm.length_eq.trans_le (List.length_take_le 10 _)
  · exact (hcovers n).1 (List.mem_of_mem_take (hperm.mem_iff.1 hn))
  · obtain ⟨hten, hlt⟩ := lt_of_not_mem_take hsorted ((hcovers n).2 hn) (hperm.mem_iff.not.1 hout)
    exact ⟨hperm.length_eq.trans hten, fun m hm => hlt m (hperm.mem_iff.1 hm)⟩

/-! ## The first opaque sprite pixel (R440, R447) -/

section
variable {p : Ppu} {vram oam : Memory} {x y : Nat}

theorem Ppu.firstOpaque_cons_of_clear {n : Nat}
    (h : p.spriteIndex vram oam n x y = none ∨ p.spriteIndex vram oam n x y = some 0) (rest : List Nat) :
    p.firstOpaque vram oam x y (n :: rest) = p.firstOpaque vram oam x y rest := by
  rw [Ppu.firstOpaque]
  obtain h | h := h
  · rw [h]
  · rw [h]
    rfl

theorem Ppu.firstOpaque_append_of_clear {l : List Nat}
    (h : ∀ n ∈ l, p.spriteIndex vram oam n x y = none ∨ p.spriteIndex vram oam n x y = some 0) (rest : List Nat) :
    p.firstOpaque vram oam x y (l ++ rest) = p.firstOpaque vram oam x y rest := by
  induction l with
  | nil => rfl
  | cons n l ih =>
    rw [List.cons_append, Ppu.firstOpaque_cons_of_clear (h n List.mem_cons_self)]
    exact ih fun m hm => h m (List.mem_cons_of_mem n hm)

theorem Ppu.firstOpaque_cons_of_opaque {n ci : Nat} (h : p.spriteIndex vram oam n x y = some ci) (hci : ci ≠ 0)
    (rest : List Nat) : p.firstOpaque vram oam x y (n :: rest) = some (n, ci) := by
  rw [Ppu.firstOpaque, h]
  exact if_neg hci

/-- With sprites off, or with none opaque, the background shows. -/
theorem Ppu.pixel_of_background
    (h : p.lcdc.getLsbD 1 = false ∨ p.firstOpaque vram oam x y p.lineSprites = none) :
    p.pixel vram oam x y = shadeOf p.bgp (p.bgWinIndex vram x y) := by
  rw [Ppu.pixel]
  obtain h | h := h
  · rw [h]
    rfl
  · rw [h]
    exact ite_self _

/-- The first opaque entry decides by its priority bit. -/
theorem Ppu.pixel_of_sprite {n ci : Nat} (hon : p.lcdc.getLsbD 1 = true)
    (h : p.firstOpaque vram oam x y p.lineSprites = some (n, ci)) :
    p.pixel vram oam x y =
      if (Cells.read oam (4 * n + 3)).getLsbD 7 = true ∧ p.bgWinIndex vram x y ≠ 0 then
        shadeOf p.bgp (p.bgWinIndex vram x y)
      else shadeOf (if (Cells.read oam (4 * n + 3)).getLsbD 4 then p.obp1 else p.obp0) ci := by
  rw [Ppu.pixel, if_pos hon, h]
  by_cases hbehind : (Cells.read oam (4 * n + 3)).getLsbD 7 = true ∧ p.bgWinIndex vram x y ≠ 0
  · rw [if_pos hbehind]
    exact if_neg (by rw [hbehind.1]; simp [hbehind.2])
  · rw [if_neg hbehind]
    refine if_pos ?_
    rwa [not_and_or, not_not, Bool.not_eq_true] at hbehind

end

/-! ## Indices as arithmetic (R430, R442 to R446) -/

theorem toNat_shadeOf (pal : Byte) (ci : Nat) : (shadeOf pal ci).toNat = pal.toNat / 4 ^ ci % 4 := by
  rw [shadeOf, BitVec.extractLsb'_toNat, Nat.shiftRight_eq_div_pow, Nat.pow_mul]

/-- The byte of VRAM at an address. -/
def vramByte (vram : Memory) (a : Nat) : Byte := Cells.read vram (a - 0x8000)

/-- The colour index of column bit `b` of the tile row at address `row`: a bit of each of its two planes (R444). -/
def planesAt (vram : Memory) (row b : Nat) : Nat :=
  2 * ((vramByte vram (row + 1)).toNat / 2 ^ b % 2) + (vramByte vram row).toNat / 2 ^ b % 2

/-- The address of tile `t` of the background and the window (R443). -/
def Ppu.tileAddress (p : Ppu) (t : Nat) : Nat :=
  if p.lcdc.getLsbD 4 then 0x8000 + 16 * t else if t < 128 then 0x9000 + 16 * t else 0x8800 + 16 * (t - 128)

theorem planeIndex_eq_planesAt (vram : Memory) (o b : Nat) :
    planeIndex (Cells.read vram o) (Cells.read vram (o + 1)) b = planesAt vram (0x8000 + o) b := by
  have hbit (v : Byte) : (v.getLsbD b).toNat = v.toNat / 2 ^ b % 2 := Nat.toNat_testBit _ _
  rw [planeIndex, planesAt, vramByte, vramByte, Nat.add_assoc, Nat.add_sub_cancel_left, Nat.add_sub_cancel_left, hbit, hbit]

theorem Ppu.tileBase_eq (p : Ppu) (t : Byte) : 0x8000 + p.tileBase t = p.tileAddress t.toNat := by
  have := t.isLt
  unfold Ppu.tileBase Ppu.tileAddress
  split
  · omega
  · rw [BitVec.toInt_eq_toNat_cond]
    split <;> split <;> omega

/-- The index at a position of the map at VRAM offset `map` (R442 to R444). -/
theorem Ppu.tileIndex_eq (p : Ppu) (vram : Memory) (map px py : Nat) : p.tileIndex vram map px py =
    planesAt vram (p.tileAddress (vramByte vram (0x8000 + map + py / 8 * 32 + px / 8)).toNat + 2 * (py % 8))
      (7 - px % 8) := by
  have hcell : Cells.read vram (map + py / 8 * 32 + px / 8) = vramByte vram (0x8000 + map + py / 8 * 32 + px / 8) := by
    refine congrArg (Cells.read vram) ?_
    omega
  rw [Ppu.tileIndex, planeIndex_eq_planesAt, ← Nat.add_assoc, Ppu.tileBase_eq, hcell]

theorem mapBase_eq (high : Bool) : 0x8000 + mapBase high = if high then 0x9C00 else 0x9800 := by cases high <;> rfl

theorem Ppu.windowAt_iff (p : Ppu) (x y : Nat) :
    p.windowAt x y = true ↔ p.lcdc.getLsbD 5 = true ∧ p.wy.toNat ≤ y ∧ p.wx.toNat ≤ x + 7 := by
  rw [Ppu.windowAt, Bool.and_eq_true, Bool.and_eq_true, decide_eq_true_eq, decide_eq_true_eq, and_assoc]

/-- The index of an entry: its tile's row and column after the flips, where it covers the pixel (R446). -/
theorem Ppu.spriteIndex_eq (p : Ppu) (vram oam : Memory) (n x y : Nat) :
    let attr := Cells.read oam (4 * n + 3)
    let top := oamByte oam n 0
    let left := oamByte oam n 1
    let number := oamByte oam n 2
    let h := p.spriteHeight
    p.spriteIndex vram oam n x y =
      if left ≤ x + 8 ∧ x + 8 < left + 8 ∧ top ≤ y + 16 ∧ y + 16 < top + h then
        some (planesAt vram
          (0x8000 + 16 * (if h = 16 then number - number % 2 else number)
            + 2 * (if attr.getLsbD 6 then h - 1 - (y + 16 - top) else y + 16 - top))
          (if attr.getLsbD 5 then x + 8 - left else 7 - (x + 8 - left)))
      else none := by
  intro attr top left number h
  have heven : ∀ v : Byte, (v &&& 0xFE#8).toNat = v.toNat - v.toNat % 2 := by decide
  have htile : (if h = 16 then Cells.read oam (4 * n + 2) &&& 0xFE#8 else Cells.read oam (4 * n + 2)).toNat
      = if h = 16 then number - number % 2 else number := by
    split
    · exact heven _
    · rfl
  have hcovers : (left ≤ x + 8 ∧ x + 8 - left ≤ 7 ∧ top ≤ y + 16 ∧ y + 16 - top < h)
      ↔ left ≤ x + 8 ∧ x + 8 < left + 8 ∧ top ≤ y + 16 ∧ y + 16 < top + h := by omega
  refine if_congr hcovers ?_ rfl
  rw [planeIndex_eq_planesAt, htile, ← Nat.add_assoc, Nat.mul_comm _ 16]
  rfl

/-- Settles O50: the priority by the first opaque entry, the indices by the addresses of their tile rows. -/
theorem pixelPriority : Obligations.PixelPriority := by
  intro p vram oam x y bg clear attr at' planes tile mapped map h
  refine ⟨fun hclear => ?_, fun before n after ci hon hsprites hbefore hn hci => ?_,
    fun pal ci _ => toNat_shadeOf pal ci, ?_, fun n => p.spriteIndex_eq vram oam n x y⟩
  · refine Ppu.pixel_of_background (hclear.imp_right fun hall => ?_)
    rw [← List.append_nil p.lineSprites, Ppu.firstOpaque_append_of_clear hall, Ppu.firstOpaque]
  · refine Ppu.pixel_of_sprite hon ?_
    rw [hsprites, Ppu.firstOpaque_append_of_clear hbefore, Ppu.firstOpaque_cons_of_opaque hn hci]
  · show p.bgWinIndex vram x y = _
    rw [Ppu.bgWinIndex, Ppu.tileIndex_eq, Ppu.tileIndex_eq, mapBase_eq, mapBase_eq]
    simp only [Ppu.windowAt_iff]
    cases p.lcdc.getLsbD 0 <;> rfl

end Sys2Proof.Machine
end

section
/-! PROOFS. The frame sequencer and the tick of the APU (63_apu.md R485 to R493, R500). -/

namespace Sys2Proof.Machine

open Sys2Proof

/-! ## A step of the frame sequencer by its number (R486) -/

section
variable {a : Apu}

theorem Apu.frameStep_of_idle (h : a.fsStep = 1 ∨ a.fsStep = 3 ∨ a.fsStep = 5) :
    a.frameStep = { a with fsStep := a.fsStep + 1 } := by
  obtain h | h | h := h <;> simp [Apu.frameStep, h]

theorem Apu.frameStep_of_length (h : a.fsStep = 0 ∨ a.fsStep = 4) :
    a.frameStep = { a.clockLength with fsStep := a.fsStep + 1 } := by
  obtain h | h := h <;> simp [Apu.frameStep, h]

theorem Apu.frameStep_of_sweep (h : a.fsStep = 2 ∨ a.fsStep = 6) :
    a.frameStep = { a.clockLength.clockSweep with fsStep := a.fsStep + 1 } := by
  obtain h | h := h <;> simp [Apu.frameStep, h]

theorem Apu.frameStep_of_envelope (h : a.fsStep = 7) : a.frameStep = { a.clockEnvelope with fsStep := 0 } := by
  simp [Apu.frameStep, h]

end

/-! ## The sweep unit (R489) -/

/-- The frequency one sweep away from `x`. -/
def Apu.sweepFrom (a : Apu) (x : Nat) : Nat :=
  if a.nr10.getLsbD 3 then x - x / 2 ^ (a.nr10.toNat % 8) else x + x / 2 ^ (a.nr10.toNat % 8)

/-- The sweep unit with its timer loaded from the period, a period of 0 counting as 8. -/
def Apu.sweepReloaded (a : Apu) : Sweep :=
  { a.sweep with timer := if a.nr10.toNat / 16 % 8 = 0 then 8 else a.nr10.toNat / 16 % 8 }

/-- Channel 1, disabled where the frequency `x` overflows. -/
def Apu.ch1IfFits (a : Apu) (x : Nat) : Pulse := { a.ch1 with enabled := a.ch1.enabled && decide (x ≤ 2047) }

theorem Apu.sweepNew_eq_sweepFrom (a : Apu) : a.sweepNew = a.sweepFrom a.sweep.shadow.toNat := sweepNew_eq a

theorem Apu.sweepCheck_eq (a : Apu) : a.sweepCheck = { a with ch1 := a.ch1IfFits (a.sweepFrom a.sweep.shadow.toNat) } := by
  rw [Apu.sweepCheck, Apu.sweepNew_eq_sweepFrom]
  rfl

/-- The upper bits of NR14 stay, its low three take the frequency's bits 10:8. -/
theorem nr14_sweepStore (nr14 : Byte) {n : Nat} (h : n ≤ 2047) :
    nr14.extractLsb' 3 5 ++ (BitVec.ofNat 11 n).extractLsb' 8 3 = (nr14 &&& 0xF8#8) ||| BitVec.ofNat 8 (n / 256) := by
  have hfields : ∀ (v : Byte) (k : Nat), k < 8 →
      v.extractLsb' 3 5 ++ BitVec.ofNat 3 k = (v &&& 0xF8#8) ||| BitVec.ofNat 8 k := by decide
  have hhigh : (BitVec.ofNat 11 n).extractLsb' 8 3 = BitVec.ofNat 3 (n / 256) := by
    apply BitVec.eq_of_toNat_eq
    rw [BitVec.extractLsb'_toNat, BitVec.toNat_ofNat, BitVec.toNat_ofNat, Nat.shiftRight_eq_div_pow]
    omega
  rw [hhigh]
  exact hfields nr14 (n / 256) (by omega)

section
variable {a : Apu}

theorem Apu.clockSweep_of_counting (h : 1 < a.sweep.timer) :
    a.clockSweep = { a with sweep := { a.sweep with timer := a.sweep.timer - 1 } } := by
  rw [Apu.clockSweep, if_neg (by omega)]

theorem Apu.clockSweep_of_expired (h : ¬ 1 < a.sweep.timer) : a.clockSweep =
    if a.sweep.enabled = false ∨ a.nr10.toNat / 16 % 8 = 0 then { a with sweep := a.sweepReloaded }
    else Apu.sweepUpdate { a with sweep := a.sweepReloaded } := by
  rw [Apu.clockSweep, if_pos (by omega), sweepPeriod_eq]
  by_cases hperiod : a.nr10.toNat / 16 % 8 = 0
  · simp [hperiod, Apu.sweepReloaded, orEight]
  · cases a.sweep.enabled <;> simp [hperiod, Apu.sweepReloaded, orEight]

theorem Apu.clockSweep_of_off (h : ¬ 1 < a.sweep.timer) (hoff : a.sweep.enabled = false ∨ a.nr10.toNat / 16 % 8 = 0) :
    a.clockSweep = { a with sweep := a.sweepReloaded } := by
  rw [Apu.clockSweep_of_expired h, if_pos hoff]

section
variable (h : ¬ 1 < a.sweep.timer) (hon : ¬(a.sweep.enabled = false ∨ a.nr10.toNat / 16 % 8 = 0))
include h hon

/-- Without a shift, or with a new frequency out of range, only the check is made. -/
theorem Apu.clockSweep_of_overflow (hover : a.nr10.toNat % 8 = 0 ∨ 2047 < a.sweepFrom a.sweep.shadow.toNat) :
    a.clockSweep = { a with sweep := a.sweepReloaded, ch1 := a.ch1IfFits (a.sweepFrom a.sweep.shadow.toNat) } := by
  rw [Apu.clockSweep_of_expired h, if_neg hon, Apu.sweepUpdate, if_neg, Apu.sweepCheck_eq]
  · rfl
  · rw [Apu.sweepNew_eq_sweepFrom, sweepShift_eq]
    show ¬(a.sweepFrom a.sweep.shadow.toNat ≤ 2047 ∧ a.nr10.toNat % 8 ≠ 0)
    omega

/-- A new frequency in range is stored, and the one after it checked. -/
theorem Apu.clockSweep_of_fits (hfits : ¬(a.nr10.toNat % 8 = 0 ∨ 2047 < a.sweepFrom a.sweep.shadow.toNat)) :
    let new := a.sweepFrom a.sweep.shadow.toNat
    a.clockSweep = { a with
      sweep := { a.sweepReloaded with shadow := BitVec.ofNat 11 new }
      nr13 := BitVec.ofNat 8 new
      nr14 := (a.nr14 &&& 0xF8#8) ||| BitVec.ofNat 8 (new / 256)
      ch1 := a.ch1IfFits (a.sweepFrom new) } := by
  intro new
  have hnew : new ≤ 2047 := by omega
  have hlow : (BitVec.ofNat 11 new).extractLsb' 0 8 = BitVec.ofNat 8 new := by
    apply BitVec.eq_of_toNat_eq
    simp
  have hshadow : (BitVec.ofNat 11 new).toNat = new := Nat.mod_eq_of_lt (by omega)
  have hstores : Apu.sweepNew { a with sweep := a.sweepReloaded } ≤ 2047
      ∧ Apu.sweepShift { a with sweep := a.sweepReloaded } ≠ 0 := by
    rw [Apu.sweepNew_eq_sweepFrom, sweepShift_eq]
    exact ⟨hnew, fun h0 => hfits (.inl h0)⟩
  have hstored : Apu.sweepStore { a with sweep := a.sweepReloaded } (BitVec.ofNat 11 new) = { a with
      sweep := { a.sweepReloaded with shadow := BitVec.ofNat 11 new }
      nr13 := BitVec.ofNat 8 new
      nr14 := (a.nr14 &&& 0xF8#8) ||| BitVec.ofNat 8 (new / 256) } := by
    rw [Apu.sweepStore, hlow, nr14_sweepStore _ hnew]
  rw [Apu.clockSweep_of_expired h, if_neg hon, Apu.sweepUpdate, if_pos hstores, Apu.sweepNew_eq_sweepFrom]
  refine (congrArg Apu.sweepCheck hstored).trans ?_
  rw [Apu.sweepCheck_eq, hshadow]
  rfl

end

end

/-! ## Lengths and envelopes (R487, R488) -/

/-- The length clock of all four channels. -/
theorem Apu.clockLength_eq (a : Apu) :
    let len := fun (nrx4 : Byte) (n : Nat) => if nrx4.getLsbD 6 then n - 1 else n
    let on := fun (nrx4 : Byte) (n : Nat) (e : Bool) => e && !(nrx4.getLsbD 6 && decide (n = 1))
    a.clockLength = { a with
      ch1 := { a.ch1 with length := len a.nr14 a.ch1.length, enabled := on a.nr14 a.ch1.length a.ch1.enabled }
      ch2 := { a.ch2 with length := len a.nr24 a.ch2.length, enabled := on a.nr24 a.ch2.length a.ch2.enabled }
      ch3 := { a.ch3 with length := len a.nr34 a.ch3.length, enabled := on a.nr34 a.ch3.length a.ch3.enabled }
      ch4 := { a.ch4 with length := len a.nr44 a.ch4.length, enabled := on a.nr44 a.ch4.length a.ch4.enabled } } := by
  simp only [Apu.clockLength, Pulse.clockLength, WaveChannel.clockLength, Noise.clockLength, lengthAfter_eq, staysEnabled_eq]

theorem envelopeVol_eq (nrx2 : Byte) (vol timer : Nat) : envelopeVol nrx2 vol timer =
    if nrx2.toNat % 8 = 0 ∨ 1 < timer then vol
    else if nrx2.getLsbD 3 then (if vol < 15 then vol + 1 else vol) else vol - 1 := by
  have hstep : (nrx2.toNat % 8 ≠ 0 ∧ timer - 1 = 0) ↔ ¬(nrx2.toNat % 8 = 0 ∨ 1 < timer) := by omega
  rw [envelopeVol, envelopePeriod_eq, if_congr hstep rfl rfl, ite_not]
  rfl

theorem envelopeTimer_eq (nrx2 : Byte) (timer : Nat) : envelopeTimer nrx2 timer =
    if nrx2.toNat % 8 = 0 then timer else if 1 < timer then timer - 1 else nrx2.toNat % 8 := by
  have hrun : timer - 1 = 0 ↔ ¬ 1 < timer := by omega
  rw [envelopeTimer, envelopePeriod_eq, if_congr hrun rfl rfl, ite_not]

/-- Settles O55: each step is one of four, the sweep by what its timer, its period and the new frequency say. -/
theorem frameSequencer : Obligations.FrameSequencer := by
  intro a k len on lengths period shift moved new fits reloaded swept vol timer
  have hlengths : { a.clockLength with fsStep := k + 1 } = lengths := by rw [Apu.clockLength_eq]
  have hfits (x : Nat) : fits x = a.clockLength.ch1IfFits x := by
    simp only [fits, ← hlengths]
    rfl
  refine ⟨Apu.frameStep_of_idle, fun h => (Apu.frameStep_of_length h).trans hlengths, fun h => ?_, fun h => ?_⟩
  · rw [Apu.frameStep_of_sweep h]
    simp only [swept, ← hlengths]
    by_cases hcount : 1 < a.sweep.timer
    · rw [Apu.clockSweep_of_counting (a := a.clockLength) hcount, if_pos hcount]
      rfl
    rw [if_neg hcount]
    by_cases hoff : a.sweep.enabled = false ∨ period = 0
    · rw [Apu.clockSweep_of_off (a := a.clockLength) hcount hoff, if_pos hoff]
      rfl
    rw [if_neg hoff]
    by_cases hover : shift = 0 ∨ 2047 < new
    · rw [Apu.clockSweep_of_overflow (a := a.clockLength) hcount hoff hover, if_pos hover, hfits]
      rfl
    · rw [Apu.clockSweep_of_fits (a := a.clockLength) hcount hoff hover, if_neg hover, hfits]
      rfl
  · rw [Apu.frameStep_of_envelope h]
    simp only [Apu.clockEnvelope, Pulse.clockEnvelope, Noise.clockEnvelope, envelopeVol_eq, envelopeTimer_eq]
    rfl

end Sys2Proof.Machine
end

section
/-! PROOFS. The tick of the APU: the channel timers, the outputs and the sample (63_apu.md R485, R490 to R493, R500). -/

namespace Sys2Proof.Machine

open Sys2Proof

/-! ## The channel timers (R490 to R492) -/

theorem pulsePeriod_eq (low high : Byte) : pulsePeriod low high = (2048 - (high.toNat % 8 * 256 + low.toNat)) * 4 := by
  rw [pulsePeriod, frequency_eq]

theorem wavePeriod_eq (low high : Byte) : wavePeriod low high = (2048 - (high.toNat % 8 * 256 + low.toNat)) * 2 := by
  rw [wavePeriod, frequency_eq]

/-- A clock of the LFSR as the bits it leaves: the feedback bit at the top, and in 7-bit mode at bit 6 too. -/
theorem lfsrNext_eq (old : BitVec 15) (narrow : Bool) : lfsrNext old narrow =
    let bit := BitVec.ofBool (old.getLsbD 0 != old.getLsbD 1)
    if narrow then bit ++ old.extractLsb' 8 7 ++ bit ++ old.extractLsb' 1 6 else bit ++ old.extractLsb' 1 14 := by
  unfold lfsrNext
  generalize (old.getLsbD 0 != old.getLsbD 1) = x
  have happend {m k : Nat} (hmk : m + k = 15) (y : BitVec m) (z : BitVec k) (i : Nat) :
      BitVec.getLsbD ((y ++ z).cast hmk) i = if i < k then z.getLsbD i else y.getLsbD (i - k) := by
    rw [BitVec.getLsbD_cast, BitVec.getLsbD_append]
  apply BitVec.eq_of_getLsbD_eq
  intro i hi
  cases narrow
  · refine Eq.trans ?_ (happend rfl (BitVec.ofBool x) (old.extractLsb' 1 14) i).symm
    cases x <;> interval_cases i <;> simp
  · refine Eq.trans ?_
      (happend rfl (BitVec.ofBool x ++ old.extractLsb' 8 7 ++ BitVec.ofBool x) (old.extractLsb' 1 6) i).symm
    rw [BitVec.getLsbD_append, BitVec.getLsbD_append]
    cases x <;> interval_cases i <;> simp

/-! ## What a tick leaves to the sample counter (R485) -/

/-- `b` has the sample counter and the samples of `a`. -/
def Apu.SameSamples (a b : Apu) : Prop := b.sampleCount = a.sampleCount ∧ b.audioOut = a.audioOut

theorem Apu.SameSamples.refl (a : Apu) : a.SameSamples a := ⟨rfl, rfl⟩

theorem Apu.SameSamples.trans {a b c : Apu} (h : a.SameSamples b) (h' : b.SameSamples c) : a.SameSamples c :=
  ⟨h'.1.trans h.1, h'.2.trans h.2⟩

theorem Apu.SameSamples.ite {a b c : Apu} {p : Prop} [Decidable p] (hb : a.SameSamples b) (hc : a.SameSamples c) :
    a.SameSamples (if p then b else c) := by
  split <;> assumption

theorem Apu.sameSamples_clockSweep (a : Apu) : a.SameSamples a.clockSweep := by
  unfold Apu.clockSweep Apu.sweepUpdate
  dsimp only
  repeat' split
  all_goals exact .refl a

theorem Apu.sameSamples_frameStep (a : Apu) : a.SameSamples a.frameStep := by
  have hlength : a.SameSamples
      (if a.fsStep = 0 ∨ a.fsStep = 2 ∨ a.fsStep = 4 ∨ a.fsStep = 6 then a.clockLength else a) :=
    .ite (.refl a) (.refl a)
  have hsweep := (hlength.trans (Apu.sameSamples_clockSweep _)).ite (p := a.fsStep = 2 ∨ a.fsStep = 6) hlength
  have henvelope := (hsweep.trans (c := Apu.clockEnvelope _) (.refl _)).ite (p := a.fsStep = 7) hsweep
  exact henvelope

theorem Apu.sameSamples_countFrame (a : Apu) : a.SameSamples a.countFrame := by
  unfold Apu.countFrame
  exact .ite (Apu.sameSamples_frameStep { a with fsCount := 0 }) (.refl a)

/-! ## The outputs (R493, R500) -/

theorem duty_eq (nrx1 : Byte) (pos : Nat) : (dutyTable.getD (nrx1.extractLsb' 6 2).toNat []).getD pos 0 =
    (dutyTable.getD (nrx1.toNat / 64) []).getD pos 0 := by
  have h : ∀ v : Byte, (v.extractLsb' 6 2).toNat = v.toNat / 64 := by decide
  rw [h]

theorem Pulse.output_eq (c : Pulse) (nrx1 nrx2 : Byte) : c.output nrx1 nrx2 =
    if c.enabled = true ∧ 8 ≤ nrx2.toNat then (dutyTable.getD (nrx1.toNat / 64) []).getD c.dutyPos 0 * c.vol else 0 := by
  rw [Pulse.output, duty_eq, dacOn_eq]
  simp only [Bool.and_eq_true, decide_eq_true_eq]

/-- The volume code as the power of two that divides a sample (R475). -/
theorem waveShift_eq : ∀ v : Byte, waveShift v = [4, 0, 1, 2].getD (v.toNat / 32 % 4) 0 := by decide

theorem waveSample_eq (wave : Memory) (pos : Nat) : waveSample wave pos =
    if pos % 2 = 0 then (Cells.read wave (pos / 2)).toNat / 16 else (Cells.read wave (pos / 2)).toNat % 16 := by
  have hhigh : ∀ v : Byte, (v.extractLsb' 4 4).toNat = v.toNat / 16 := by decide
  have hlow : ∀ v : Byte, (v.extractLsb' 0 4).toNat = v.toNat % 16 := by decide
  rw [waveSample, hhigh, hlow]

theorem WaveChannel.output_eq (c : WaveChannel) (nr30 nr32 : Byte) (wave : Memory) : c.output nr30 nr32 wave =
    if c.enabled = true ∧ nr30.getLsbD 7 = true then
      (if c.pos % 2 = 0 then (Cells.read wave (c.pos / 2)).toNat / 16 else (Cells.read wave (c.pos / 2)).toNat % 16)
        / 2 ^ [4, 0, 1, 2].getD (nr32.toNat / 32 % 4) 0
    else 0 := by
  rw [WaveChannel.output, waveSample_eq, waveShift_eq, Nat.shiftRight_eq_div_pow]
  simp only [Bool.and_eq_true]

theorem Noise.output_eq (c : Noise) (nr42 : Byte) : c.output nr42 =
    if c.enabled = true ∧ 8 ≤ nr42.toNat then (if c.lfsr.getLsbD 0 then 0 else c.vol) else 0 := by
  rw [Noise.output, dacOn_eq]
  simp only [Bool.and_eq_true, decide_eq_true_eq]

/-- Settles O54: the timers by their periods, the sample from the counter as the tick found it, the mixer by its outputs. -/
theorem apuTick : Obligations.ApuTick := by
  intro s a b freq pulse divisor old bit lfsr moved duty tone nibbles wave noise routed sum
  have hmoved : moved = if a.power then a.countFrame.tickChannels else a := by
    rw [Apu.tickChannels, pulsePeriod_eq, pulsePeriod_eq, wavePeriod_eq, Noise.tick, noisePeriod_eq, lfsrNext_eq]
    rfl
  have hsamples : a.SameSamples moved := by
    rw [hmoved]
    exact .ite (a.sameSamples_countFrame.trans (.refl _)) (.refl a)
  refine ⟨?_, ?_⟩
  · rw [State.apuTick, Apu.tick, Apu.countSample, ← hmoved, hsamples.1, hsamples.2]
  · have hvolume : ∀ v : Byte,
        (v.extractLsb' 4 3).toNat = v.toNat / 16 % 8 ∧ (v.extractLsb' 0 3).toNat = v.toNat % 8 := by decide
    rw [Apu.mix, (hvolume _).1, (hvolume _).2, Apu.terminalSum, Apu.terminalSum, Pulse.output_eq, Pulse.output_eq,
      WaveChannel.output_eq, Noise.output_eq]
    rfl

end Sys2Proof.Machine
end

section
/-! PROOFS. The APU's registers: reads, writes, triggers, and the power bit (63_apu.md R470 to R479, R490 to R500). -/

namespace Sys2Proof.Machine

open Sys2Proof

/-! ## Registers and wave RAM (R470 to R479) -/

theorem State.MemInv.wave {s : State} (h : s.MemInv) : Cells.wf s.mem.wave = true := by
  obtain ⟨-, -, -, -, -, -, hm, -⟩ := (Mem.wf_iff _).1 h
  exact hm

/-- NR52 as the power bit and the four channels' states (R478). -/
theorem Apu.readNr52_eq (a : Apu) : a.readNr52 = BitVec.ofNat 8 (0x70 + 128 * a.power.toNat + 8 * a.ch4.enabled.toNat
    + 4 * a.ch3.enabled.toNat + 2 * a.ch2.enabled.toNat + a.ch1.enabled.toNat) := by
  have h : ∀ on e4 e3 e2 e1 : Bool,
      BitVec.ofBool on ++ 0b111#3 ++ BitVec.ofBool e4 ++ BitVec.ofBool e3 ++ BitVec.ofBool e2 ++ BitVec.ofBool e1
        = BitVec.ofNat 8 (0x70 + 128 * on.toNat + 8 * e4.toNat + 4 * e3.toNat + 2 * e2.toNat + e1.toNat) := by decide
  exact h _ _ _ _ _

/-- A byte of the bus after a write of wave RAM: the new byte at its address, every other byte as before (R479). -/
theorem busRead_busWrite_wave {s : State} (hinv : s.MemInv) {a : Word} (h1 : 0xFF30 ≤ a.toNat) (h2 : a.toNat < 0xFF40)
    (v : Byte) (b : Word) : (s.busWrite a v).busRead b = if b = a then v else s.busRead b := by
  rw [busWrite_wave s v h1 h2]
  by_cases hb : 0xFF30 ≤ b.toNat ∧ b.toNat < 0xFF40
  · have hkey : b.toNat - 0xFF30 = a.toNat - 0xFF30 ↔ b = a := by bv_omega
    rw [busRead_wave _ hb.1 hb.2, busRead_wave _ hb.1 hb.2, Cells.read_write hinv.wave, if_congr hkey rfl rfl]
  · rw [if_neg (by rintro rfl; exact hb ⟨h1, h2⟩)]
    have hcover := regionOf_covers b
    unfold State.busRead
    generalize regionOf b = r at hcover ⊢
    cases r
    case io o =>
      simp only [Region.Covers] at hcover
      dsimp only
      cases hr : ioRegAt o with
      | none => rfl
      | some r =>
        cases r
        case wave i =>
          have := (ioRegAt_wave_iff o i).1 hr
          omega
        all_goals rfl
    all_goals rfl

section
variable {a : Apu} {v : Byte}

theorem Apu.writeNr52_same (h : v.getLsbD 7 = a.power) : a.writeNr52 v = a := by
  rw [Apu.writeNr52, h]
  cases a.power <;> rfl

theorem Apu.writeNr52_on (hv : v.getLsbD 7 = true) (h : a.power = false) : a.writeNr52 v = a.powerOn := by
  rw [Apu.writeNr52, h, hv]
  rfl

theorem Apu.writeNr52_off (hv : v.getLsbD 7 = false) (h : a.power = true) : a.writeNr52 v = a.powerOff := by
  rw [Apu.writeNr52, h, hv]
  rfl

end

/-- Settles O53: each register is one arm of the read and of the write, wave RAM one cell of its own. -/
theorem apuRegisters : Obligations.ApuRegisters := by
  intro s v a dac stores
  have hdac : dac = dacOn v := (dacOn_eq v).symm
  have hnr52 (b : Apu) (hb : a.writeNr52 v = b) : stores 0xFF26 b := hb ▸ rfl
  rw [← lengthLoad_eq v, hdac]
  refine ⟨?_, a.readNr52_eq, fun hon => ?_, fun h => hnr52 a (Apu.writeNr52_same h),
    fun hv hoff => hnr52 _ (Apu.writeNr52_on hv hoff), fun w h1 h2 hinv => ?_⟩
  · have hzero (x : Byte) : x = x ||| 0x00 := BitVec.or_zero.symm
    simp only [List.forall_mem_cons]
    exact ⟨rfl, rfl, hzero _, rfl, rfl, rfl, hzero _, rfl, rfl, rfl, rfl, rfl, rfl, rfl, rfl, hzero _, hzero _, rfl,
      hzero _, hzero _, fun _ h => absurd h List.not_mem_nil⟩
  · have hwrite (r : IoReg) : s.apuWrite r v = { s with apu := a.writePowered r v } := apuWrite_powered s r v hon
    refine ⟨hwrite .nr10, hwrite .nr11, hwrite .nr12, hwrite .nr13, hwrite .nr21, hwrite .nr22, hwrite .nr23, hwrite .nr30,
      hwrite .nr31, hwrite .nr32, hwrite .nr33, hwrite .nr41, hwrite .nr42, hwrite .nr43, hwrite .nr50, hwrite .nr51,
      fun hv => ?_⟩
    have hnot : ¬ v.getLsbD 7 = true := by rw [hv]; decide
    have hstore (r : IoReg) {b c : Apu} (hr : a.writePowered r v = if v.getLsbD 7 then c else b) :
        s.apuWrite r v = { s with apu := b } := by rw [hwrite, hr, if_neg hnot]
    exact ⟨hstore .nr14 rfl, hstore .nr24 rfl, hstore .nr34 rfl, hstore .nr44 rfl⟩
  · refine ⟨?_, busRead_wave s h1 h2, ?_, fun b hb => ?_⟩
    · show s.busWrite w v = _
      rw [busWrite_wave s v h1 h2]
    · exact (busRead_busWrite_wave hinv h1 h2 v w).trans (if_pos rfl)
    · exact (busRead_busWrite_wave hinv h1 h2 v b).trans (if_neg hb)

end Sys2Proof.Machine
end

section
/-! PROOFS. The triggers of the four channels, the power switched off, and the range of a sample (63_apu.md R470, R478,
R490 to R496, R500). -/

namespace Sys2Proof.Machine

open Sys2Proof

/-! ## Triggers (R494 to R496) -/

theorem Pulse.trigger_eq (c : Pulse) (nrx2 nrx3 nrx4 : Byte) : c.trigger nrx2 nrx3 nrx4 = { c with
    enabled := decide (8 ≤ nrx2.toNat)
    length := if c.length = 0 then 64 else c.length
    ftimer := (2048 - (nrx4.toNat % 8 * 256 + nrx3.toNat)) * 4
    vol := nrx2.toNat / 16
    envTimer := if nrx2.toNat % 8 = 0 then 8 else nrx2.toNat % 8 } := by
  rw [Pulse.trigger, dacOn_eq, pulsePeriod_eq, initialVolume_eq, envelopePeriod_eq]
  rfl

/-- The sweep unit that a trigger loads. -/
theorem Apu.triggerSweep_eq (a : Apu) : a.triggerSweep = { a with sweep :=
    { timer := if a.nr10.toNat / 16 % 8 = 0 then 8 else a.nr10.toNat / 16 % 8
      enabled := decide (a.nr10.toNat / 16 % 8 ≠ 0 ∨ a.nr10.toNat % 8 ≠ 0)
      shadow := BitVec.ofNat 11 (a.nr14.toNat % 8 * 256 + a.nr13.toNat) } } := by
  have hshadow : a.nr14.setWidth 3 ++ a.nr13 = BitVec.ofNat 11 (a.nr14.toNat % 8 * 256 + a.nr13.toNat) := by
    rw [← frequency_eq, frequency, BitVec.ofNat_toNat, BitVec.setWidth_eq]
  rw [Apu.triggerSweep, hshadow, sweepPeriod_eq, sweepShift_eq]
  rfl

/-- A sweep from the frequency `f` stays in range unless it goes up past 2047. -/
theorem Apu.sweepNew_le_iff (a : Apu) (h : a.sweep.shadow.toNat ≤ 2047) : a.sweepNew ≤ 2047 ↔
    ¬(a.nr10.getLsbD 3 = false ∧ 2047 < a.sweep.shadow.toNat + a.sweep.shadow.toNat / 2 ^ (a.nr10.toNat % 8)) := by
  rw [sweepNew_eq]
  cases a.nr10.getLsbD 3
  · simp
  · simp [(Nat.sub_le _ _).trans h]

/-- A trigger of channel 1: the channel, the sweep unit, and the check of a sweep that has a shift (R494). -/
theorem Apu.trigger1_eq (a : Apu) :
    let f := a.nr14.toNat % 8 * 256 + a.nr13.toNat
    let shift := a.nr10.toNat % 8
    let overflows := shift ≠ 0 ∧ a.nr10.getLsbD 3 = false ∧ 2047 < f + f / 2 ^ shift
    let one := a.ch1.trigger a.nr12 a.nr13 a.nr14
    a.trigger1 =
      { a with ch1 := { one with enabled := one.enabled && !decide overflows }, sweep := a.triggerSweep.sweep } := by
  intro f shift overflows one
  have hf : f ≤ 2047 := by
    have := a.nr13.isLt
    omega
  have hloaded : a.triggerSweep.sweep.shadow.toNat = f := by
    rw [Apu.triggerSweep_eq]
    exact Nat.mod_eq_of_lt (by omega)
  have htrigger : a.trigger1 = if shift ≠ 0 then
      Apu.sweepCheck { a with ch1 := one, sweep := a.triggerSweep.sweep }
      else { a with ch1 := one, sweep := a.triggerSweep.sweep } := by
    rw [Apu.trigger1, sweepShift_eq]
    rfl
  rw [htrigger]
  by_cases hshift : shift = 0
  · simp [hshift, overflows]
  · have hfits := Apu.sweepNew_le_iff { a with ch1 := one, sweep := a.triggerSweep.sweep } (hloaded.trans_le hf)
    simp only [hloaded] at hfits
    have hsame :
        decide (Apu.sweepNew { a with ch1 := one, sweep := a.triggerSweep.sweep } ≤ 2047) = !decide overflows := by
      rw [← decide_not, decide_eq_decide, hfits]
      simp only [overflows, hshift, ne_eq, not_false_eq_true, true_and]
      rfl
    rw [if_pos hshift, Apu.sweepCheck, hsame]

theorem apuWrite_of_trigger {s : State} {r : IoReg} {v : Byte} {b c : Apu} (hon : s.apu.power = true)
    (hv : v.getLsbD 7 = true) (hr : s.apu.writePowered r v = if v.getLsbD 7 then c else b) :
    s.apuWrite r v = { s with apu := c } := by
  rw [apuWrite_powered s r v hon, hr, if_pos hv]

/-- Settles O52: each trigger is an equation on its channel, with the frequency bits as the write stores them. -/
theorem apuTriggers : Obligations.ApuTriggers := by
  intro s v hon hv a freq refill eight pulse period shift overflows one divisor
  have hfreq := toNat_storedNrx4_mod v
  refine ⟨(apuWrite_of_trigger (r := .nr14) hon hv rfl).trans ?_, (apuWrite_of_trigger (r := .nr24) hon hv rfl).trans ?_,
    (apuWrite_of_trigger (r := .nr34) hon hv rfl).trans ?_, (apuWrite_of_trigger (r := .nr44) hon hv rfl).trans ?_⟩
  · rw [Apu.trigger1_eq, Apu.triggerSweep_eq, Pulse.trigger_eq]
    simp only [hfreq]
    rfl
  · rw [Apu.trigger2, Pulse.trigger_eq]
    simp only [hfreq]
    rfl
  · rw [Apu.trigger3, wavePeriod_eq]
    simp only [hfreq]
    rfl
  · rw [Apu.trigger4, dacOn_eq, noisePeriod_eq, initialVolume_eq, envelopePeriod_eq]
    rfl

/-! ## A sample (R500) -/

theorem Pulse.InRange.output_le {c : Pulse} (h : c.InRange) (nrx1 nrx2 : Byte) : c.output nrx1 nrx2 ≤ 15 := by
  have hduty : ∀ i < 4, ∀ pos < 8, (dutyTable.getD i []).getD pos 0 ≤ 1 := by decide
  have hrow : nrx1.toNat / 64 < 4 := by
    have := nrx1.isLt
    omega
  rw [Pulse.output_eq]
  split
  · exact (Nat.mul_le_mul (hduty _ hrow _ h.duty) h.vol).trans_eq (Nat.one_mul 15)
  · exact Nat.zero_le 15

theorem WaveChannel.output_le (c : WaveChannel) (nr30 nr32 : Byte) (wave : Memory) : c.output nr30 nr32 wave ≤ 15 := by
  have hbyte := (Cells.read wave (c.pos / 2)).isLt
  rw [WaveChannel.output_eq]
  split
  · refine (Nat.div_le_self _ _).trans ?_
    split <;> omega
  · exact Nat.zero_le 15

theorem Noise.InRange.output_le {c : Noise} (h : c.InRange) (nr42 : Byte) : c.output nr42 ≤ 15 := by
  have hvol := h.vol
  rw [Noise.output_eq]
  split
  · split <;> omega
  · exact Nat.zero_le 15

/-- Four outputs of at most 15 each. -/
theorem Apu.Inv.terminalSum_le {a : Apu} (h : a.Inv) (wave : Memory) (k : Nat) : a.terminalSum wave k ≤ 60 := by
  obtain ⟨h1, h2, -, h4, -⟩ := (Apu.inv_iff a).1 h
  have hrouted {n : Nat} (b : Bool) (hn : n ≤ 15) : (if b then n else 0) ≤ 15 := by
    split <;> omega
  exact Nat.add_le_add (Nat.add_le_add (Nat.add_le_add (hrouted _ (h1.output_le _ _)) (hrouted _ (h2.output_le _ _)))
    (hrouted _ (a.ch3.output_le _ _ _))) (hrouted _ (h4.output_le _))

theorem Apu.mix_of_off {a : Apu} (h : a.power = false) (wave : Memory) : a.mix wave = (0, 0) := by
  rw [Apu.mix, h]
  rfl

theorem Apu.Inv.mix_le {a : Apu} (h : a.Inv) (wave : Memory) : (a.mix wave).1 ≤ 480 ∧ (a.mix wave).2 ≤ 480 := by
  have hscaled (k : Nat) (volume : BitVec 3) : a.terminalSum wave k * (volume.toNat + 1) ≤ 480 :=
    Nat.mul_le_mul (h.terminalSum_le wave k) volume.isLt
  cases hp : a.power
  · rw [Apu.mix_of_off hp]
    decide
  · rw [Apu.mix, if_pos hp]
    exact ⟨hscaled 4 _, hscaled 0 _⟩

/-! ## The power off (R470, R478) -/

theorem apuWrite_of_off {s : State} (h : s.apu.power = false) (r : IoReg) (v : Byte) : s.apuWrite r v = s := by
  rw [State.apuWrite, h]
  rfl

/-- The registers 0xFF10 to 0xFF25 are the APU's. -/
theorem ioWrite_eq_apuWrite {o : Nat} (h1 : 0x10 ≤ o) (h2 : o < 0x26) {r : IoReg} (hr : ioRegAt o = some r) (s : State)
    (v : Byte) : s.ioWrite r v = s.apuWrite r v := by
  interval_cases o <;> cases hr <;> rfl

theorem busWrite_of_off {s : State} (h : s.apu.power = false) {a : Word} (h1 : 0xFF10 ≤ a.toNat) (h2 : a.toNat < 0xFF26)
    (v : Byte) : s.busWrite a v = s := by
  have hio := regionOf_ioWindow (a := a) (by omega) (by omega)
  cases hr : ioRegAt (a.toNat - 0xFF00) with
  | none => exact (bus_ioHole s v hio hr).2
  | some r => rw [busWrite_io s v hio hr, ioWrite_eq_apuWrite (by omega) (by omega) hr, apuWrite_of_off h]

theorem Apu.readNr52_powerOff (a : Apu) : a.powerOff.readNr52 = 0x70 := by
  rw [Apu.readNr52_eq]
  rfl

/-- Settles O51: the range by the channels' invariant, the power off by `Apu.powerOff`, field by field. -/
theorem apuPowerAndMix : Obligations.ApuPowerAndMix := by
  intro s v
  refine ⟨fun hinv => hinv.mix_le _, fun hon hv => ?_, fun hoff =>
    ⟨Apu.mix_of_off hoff _, fun a h1 h2 => busWrite_of_off hoff h1 h2 v⟩⟩
  intro t silent
  have ht : t = { s with apu := s.apu.powerOff } := congrArg (fun b => { s with apu := b }) (Apu.writeNr52_off hv hon)
  refine ⟨ht, by rw [ht]; exact Apu.mix_of_off rfl _, ?_⟩
  rw [ht]
  have hmask (mask : Byte) : 0 ||| mask = mask := BitVec.zero_or
  simp only [List.forall_mem_cons]
  exact ⟨hmask 0x80, hmask 0x3F, rfl, hmask 0xFF, hmask 0xBF, rfl, hmask 0x3F, rfl, hmask 0xFF, hmask 0xBF,
    hmask 0x7F, hmask 0xFF, hmask 0x9F, hmask 0xFF, hmask 0xBF, rfl, hmask 0xFF, rfl, rfl, hmask 0xBF, rfl, rfl,
    s.apu.readNr52_powerOff,
    fun _ h => absurd h List.not_mem_nil⟩

end Sys2Proof.Machine
end
